-- ==== Sys2Proof/Word.lean ====
section
/-! DEFINITION. The words of the block: the widths that 10_state.md R20 and 10_state.md R40 give its registers and ports. -/

namespace Sys2Proof

/-- The register `header` (R21): priority in bits 1 to 0, address in bits 7 to 2. -/
abbrev Header := BitVec 8

/-- The register `payload` (R22), `PAYLOAD_W` = 32 bits. -/
abbrev Payload := BitVec 32

/-- A 6-bit count: `bitCount` (R24), `counter` (R29), `txidx` (R34). -/
abbrev Count6 := BitVec 6

/-- The command code `cmd` (R84). -/
abbrev CmdCode := BitVec 3

/-- A word in Unique layout (R81): the operand `arg`, the port `unique_o`. -/
abbrev UniqueWord := BitVec 32

/-- The selector of the wire and transmit rows (R88): the state code above the line sample. -/
abbrev LineCode := BitVec 5

end Sys2Proof
end

