-- ==== Sys2Proof/Syntax.lean ====
section
/-! DEFINITION. The operations of the block (30_encoding.md R88 and the two format rows of the opcode table), the ways the
spec selects one, and the input ports of a tick (10_state.md R40). -/

namespace Sys2Proof

/-- The input ports of one tick but for the clock (R40). `lineIn` is the electrical level of the bus line. -/
structure TickInput where
  /-- Synchronous reset, active high (R260). -/
  rst : Bool
  /-- The level of `line_in`; the sample `a` is this level compared with `ACTIVE_LEVEL` (R16). -/
  lineIn : Bool
  /-- A command is offered at this tick (R84). -/
  cmdValid : Bool
  /-- The command code (R84). -/
  cmd : CmdCode
  /-- The operand of `SET` and `SETSEND`, in Unique layout (R81). -/
  arg : UniqueWord
  /-- The operand of the port `byte_o` (R182). -/
  byteSel : BitVec 2
  /-- The first operand of the port `bitrange_o` (R183). -/
  brFirst : BitVec 5
  /-- The second operand of the port `bitrange_o` (R183). -/
  brLast : BitVec 5
  deriving DecidableEq, Repr, Inhabited

/-- The two parts of a transmitted slot, the two forms of `SENDBIT` (R210, R211). -/
inductive SlotPart where
  /-- The line is driven active: `st = TX_ACTIVE` (R210). -/
  | active
  /-- The inactive rest of the slot: `st = TX_REST` (R211). -/
  | rest
  deriving DecidableEq, Repr

/-- One constructor for each row of spec/opcode_table.json. -/
inductive Instr where
  /-- `NOP` (R112). -/
  | nop
  /-- `READ` (R101). -/
  | read
  /-- `SET arg` (R201). -/
  | set (arg : UniqueWord)
  /-- `SEND` (R207). -/
  | send
  /-- `SETSEND arg` (R214). -/
  | setsend (arg : UniqueWord)
  /-- `START` (R102). -/
  | start
  /-- `START_TIMEOUT` (R103). -/
  | startTimeout
  /-- `START_END` (R105). -/
  | startEnd
  /-- `PULSE_BEGIN` (R106). -/
  | pulseBegin
  /-- `SYM0` (R110). -/
  | sym0
  /-- `SYM1` (R110). -/
  | sym1
  /-- `EOF` (R107). -/
  | eof
  /-- `SHIFT_IN(b)` (R131). -/
  | shiftIn (b : Bool)
  /-- `FINALIZE` (R134). -/
  | finalize
  /-- `RUNT` (R135). -/
  | runt
  /-- `OVERRUN` (R136). -/
  | overrun
  /-- `CALC_PARITY` (R150). -/
  | calcParity
  /-- `EC_OK` (R153). -/
  | ecOk
  /-- `EC_ZERO` (R154). -/
  | ecZero
  /-- `EC_PAR` (R155). -/
  | ecPar
  /-- `EC_ODD` (R156). -/
  | ecOdd
  /-- `EC_ODD_FIX` (R157). -/
  | ecOddFix
  /-- `EC_ODD_CHAIN` (R158). -/
  | ecOddChain
  /-- `PRIORITY` (R180). -/
  | priority
  /-- `ADDRESS` (R181). -/
  | address
  /-- `BYTE`, selector `byte_sel` (R182). -/
  | byte (sel : BitVec 2)
  /-- `BITRANGE`, operands `br_first` and `br_last` (R183). -/
  | bitrange (first last : BitVec 5)
  /-- `UNIQUE` (R184). -/
  | unique
  /-- `SENT` (R185). -/
  | sent
  /-- `INCOMPLETE` (R186). -/
  | incomplete
  /-- `TX_IDLE_OK` (R209). -/
  | txIdleOk
  /-- `TX_ABORT` (R208). -/
  | txAbort
  /-- `SENDBIT`, its active part (R210) or its rest (R211). -/
  | sendbit (part : SlotPart)
  /-- `TX_END` (R212). -/
  | txEnd
  /-- The format `FRAME` (R75): priority, address, payload bits in arrival order, parity bit. -/
  | frame (priority : BitVec 2) (address : BitVec 6) (payload : List Bool) (parity : Bool)
  /-- The format `SYMBOL` (R70): one pulse of a width in ticks. -/
  | symbol (width : Nat)
  deriving DecidableEq, Repr

/-- The accessor ports the host can look at, with the operands of the two that have some (R180 to R186). -/
inductive Port where
  | priority
  | address
  | byte (sel : BitVec 2)
  | bitrange (first last : BitVec 5)
  | unique
  | sent
  | incomplete
  deriving DecidableEq, Repr

/-- What selects an operation, the column "selected by" of R88: the encodings the spec gives. -/
inductive Selector where
  /-- The command port with its operand (R84). -/
  | command (cmd : CmdCode) (arg : UniqueWord)
  /-- The selector `{st, a}` of a wire or transmit row; `atLimit` is the truth of the further condition the row's counter
  comparison adds (R88): `gcnt + 1 = MAXLOOPS`, `wcnt >= THRESH_TICKS`, `icnt + 1 = WAITLOOPS`, `bcnt + 1 = MAXLOOPS`, or
  `tcnt + 1 = SLOT_TICKS` with `txidx = bitCount + 9`. -/
  | lineEvent (code : LineCode) (atLimit : Bool)
  /-- An accessor port (R88, rows of kind accessor). -/
  | port (p : Port)
  /-- A whole frame on the wire: the values of its pulses in arrival order, start pulse first (R75). -/
  | pulses (bits : List Bool)
  /-- One pulse of a width in ticks (R70). -/
  | pulse (width : Nat)
  deriving DecidableEq, Repr

end Sys2Proof
end

