-- ==== Sys2Proof/Config.lean ====
section
/-! DEFINITION. The parameters of 00_scope.md R9, their constraints (70_reset_and_hazards.md R265), the sizes the spec fixes,
and the free inputs of the environment. -/

namespace Sys2Proof

namespace Config

/-- `PAYLOAD_W` (R9, R265 item 5). -/
abbrev payloadW : Nat := 32

/-- `FRAME_MAX` = `PAYLOAD_W + 6` (R9, R265 item 5): the most data bits the assembler stores. -/
abbrev frameMax : Nat := 38

/-- The OPEN parameters of R9. They are constants of a run (R66); the rules hold for every value of them. -/
structure Params where
  /-- `F_TICK` in hertz; no rule reads it, only `FollowsFigures` does. -/
  fTick : Nat
  /-- `ACTIVE_LEVEL`. -/
  activeLevel : Bool
  /-- `THRESH_TICKS`. -/
  threshTicks : Nat
  /-- `MAXLOOPS`. -/
  maxLoops : Nat
  /-- `WAITLOOPS`. -/
  waitLoops : Nat
  /-- `T0_TICKS`. -/
  t0Ticks : Nat
  /-- `T1_TICKS`. -/
  t1Ticks : Nat
  /-- `SLOT_TICKS`. -/
  slotTicks : Nat
  /-- `WCNT_MAX`. -/
  wcntMax : Nat
  /-- `HAS_TX`. -/
  hasTx : Bool
  deriving DecidableEq, Repr

/-- Constraints 1 to 4 of R265, what the rules need of the parameters; statements take them as a hypothesis. -/
abbrev Params.Valid (c : Params) : Prop :=
  1 ≤ c.t0Ticks ∧ c.t0Ticks < c.threshTicks ∧ c.threshTicks ≤ c.t1Ticks ∧ c.t1Ticks < c.slotTicks ∧
  2 ≤ c.maxLoops ∧ c.slotTicks - c.t0Ticks < c.maxLoops ∧ 1 ≤ c.waitLoops ∧ c.threshTicks ≤ c.wcntMax

/-- The relation of the tick parameters to the source's microsecond figures (R9, R265 item 6): the threshold exactly, the
transmit widths rounded to the nearest tick. DESIGN CHOICE: an exact half tick rounds up; the spec does not say which way it
goes (log 18). No rule of the model uses it (R10). -/
abbrev Params.FollowsFigures (c : Params) : Prop :=
  c.threshTicks * 1000000 = 500 * c.fTick ∧
  c.t0Ticks = (111 * c.fTick + 500000) / 1000000 ∧
  c.t1Ticks = (667 * c.fTick + 500000) / 1000000 ∧
  c.slotTicks = (1000 * c.fTick + 500000) / 1000000

/-- The reference configuration `REF1M` of R9; its `ACTIVE_LEVEL` is a choice of the model (log 1). -/
def ref1m : Params where
  fTick := 1000000
  activeLevel := true
  threshTicks := 500
  maxLoops := 2000
  waitLoops := 3000
  t0Ticks := 111
  t1Ticks := 667
  slotTicks := 1000
  wcntMax := 1023
  hasTx := true

/-- FREE VALUE: the inputs of tick number `n` where the state does not write them down. The line and the host are free
agents (R7), so nothing constrains them (log 2). -/
opaque envInput : Nat → TickInput

end Config

end Sys2Proof
end

