-- ==== Sys2Proof/WellFormed.lean ====
section
/-! DEFINITION. Which terms of `Instr` and of `Selector` the spec's formats admit. Widths are the ranges of every port
operand (30_encoding.md R87), so only the two wire formats have a check. -/

namespace Sys2Proof

/-- A payload run that a receiver can finalise: `n + 9 <= FRAME_MAX` data bits (R76). -/
def wellFormedPayload (payload : List Bool) : Bool :=
  payload.length + 9 ≤ Config.frameMax

/-- A pulse is a run of at least one active sample (R70). -/
def wellFormedWidth (width : Nat) : Bool :=
  1 ≤ width

/-- The operands lie in the ranges the spec's formats give them. -/
def Instr.wellFormed (i : Instr) : Bool :=
  match i with
  | .frame _ _ payload _ => wellFormedPayload payload
  | .symbol width => wellFormedWidth width
  | .nop | .read | .set _ | .send | .setsend _ => true
  | .start | .startTimeout | .startEnd | .pulseBegin | .sym0 | .sym1 | .eof => true
  | .shiftIn _ | .finalize | .runt | .overrun | .calcParity => true
  | .ecOk | .ecZero | .ecPar | .ecOdd | .ecOddFix | .ecOddChain => true
  | .priority | .address | .byte _ | .bitrange _ _ | .unique | .sent | .incomplete => true
  | .txIdleOk | .txAbort | .sendbit _ | .txEnd => true

end Sys2Proof
end

