-- ==== Sys2Proof/Decode.lean ====
section
/-! DEFINITION. From a selector to its operation (30_encoding.md R84, R86, R88, R75, R70), total, rejecting by name; then the
encoder, written from the same tables. -/

namespace Sys2Proof

/-- Why a selector names no operation of R88. -/
inductive Reject where
  /-- The selector is one at which the block only counts: R113 lists no event (R103, R104, R107, R109, R208, R209). -/
  | countingTick
  /-- The state code is one of 9 to 15, which are never taken (R28). -/
  | unusedStateCode
  /-- The pulse list is shorter than a start pulse, 8 header bits and a parity bit (R76: a runt). -/
  | shortFrame
  /-- More pulses than a start pulse and `FRAME_MAX` data bits (R76: overlong). -/
  | longFrame
  /-- A pulse has at least one active sample (R70). -/
  | emptyPulse
  deriving DecidableEq, Repr

/-- The command port (R84); codes 5 to 7 act exactly as `NOP` (R86). -/
def decodeCommand (cmd : CmdCode) (arg : UniqueWord) : Instr :=
  match cmd.toNat with
  | 1 => .read
  | 2 => .set arg
  | 3 => .send
  | 4 => .setsend arg
  | _ => .nop

/-- The selector `{st, a}` with the row's further condition (R88; codes of `st` from R28). In `IDLE` and `DONE` without an
accepted command the tick is a `NOP` (R112). -/
def decodeLine (code : LineCode) (atLimit : Bool) : Except Reject Instr :=
  match code.toNat with
  | 0 | 1 | 10 | 11 => .ok .nop
  | 2 => if atLimit then .ok .startTimeout else .error .countingTick
  | 3 => .ok .start
  | 4 => .ok .startEnd
  | 5 => .error .countingTick
  | 6 => if atLimit then .ok .eof else .error .countingTick
  | 7 => .ok .pulseBegin
  | 8 => .ok (if atLimit then .sym1 else .sym0)
  | 9 => .error .countingTick
  | 12 => if atLimit then .ok .txIdleOk else .error .countingTick
  | 13 => if atLimit then .ok .txAbort else .error .countingTick
  | 14 | 15 => .ok (.sendbit .active)
  | 16 | 17 => .ok (if atLimit then .txEnd else .sendbit .rest)
  | _ => .error .unusedStateCode

/-- The accessor behind a port (R88). -/
def decodePort (p : Port) : Instr :=
  match p with
  | .priority => .priority
  | .address => .address
  | .byte sel => .byte sel
  | .bitrange first last => .bitrange first last
  | .unique => .unique
  | .sent => .sent
  | .incomplete => .incomplete

/-- The `w`-bit field whose bits arrive least significant first (R50). -/
def bitsToField (w : Nat) (bits : List Bool) : BitVec w :=
  BitVec.ofNat w (bits.foldr (fun b acc => b.toNat + 2 * acc) 0)

/-- The bits of a `w`-bit field in arrival order, least significant first (R50). -/
def fieldToBits {w : Nat} (v : BitVec w) : List Bool :=
  (List.range w).map v.getLsbD

/-- A frame from its pulses: start pulse, 2 priority bits, 6 address bits, payload bits, parity bit last (R75, R77). The
value of the start pulse is not looked at: a receiver takes the first pulse whatever its width (R72). -/
def decodePulses (bits : List Bool) : Except Reject Instr :=
  match bits with
  | [] => .error .shortFrame
  | _ :: data =>
    if data.length < 9 then .error .shortFrame
    else if Config.frameMax < data.length then .error .longFrame
    else
      .ok (.frame (bitsToField 2 (data.take 2)) (bitsToField 6 ((data.drop 2).take 6))
        ((data.drop 8).take (data.length - 9)) (data.getD (data.length - 1) false))

/-- The operation a selector names (R88), or why it names none. -/
def decode (w : Selector) : Except Reject Instr :=
  match w with
  | .command cmd arg => .ok (decodeCommand cmd arg)
  | .lineEvent code atLimit => decodeLine code atLimit
  | .port p => .ok (decodePort p)
  | .pulses bits => decodePulses bits
  | .pulse width => if width = 0 then .error .emptyPulse else .ok (.symbol width)

/-- The pulses of a frame in arrival order (R75, R80): start pulse, priority, address, payload, parity. -/
def encodePulses (priority : BitVec 2) (address : BitVec 6) (payload : List Bool) (parity : Bool) : List Bool :=
  true :: (fieldToBits priority ++ fieldToBits address ++ payload ++ [parity])

/-- The selector of an operation, from the tables of R84, R88 and R75. The internal operations and the ErrorCheck cases
have no bit encoding: the table carries `null` for them (log 5). -/
def encode (i : Instr) : Option Selector :=
  match i with
  | .nop => some (.command 0 0)
  | .read => some (.command 1 0)
  | .set arg => some (.command 2 arg)
  | .send => some (.command 3 0)
  | .setsend arg => some (.command 4 arg)
  | .start => some (.lineEvent 0x03 false)
  | .startTimeout => some (.lineEvent 0x02 true)
  | .startEnd => some (.lineEvent 0x04 false)
  | .pulseBegin => some (.lineEvent 0x07 false)
  | .sym0 => some (.lineEvent 0x08 false)
  | .sym1 => some (.lineEvent 0x08 true)
  | .eof => some (.lineEvent 0x06 true)
  | .shiftIn _ | .finalize | .runt | .overrun | .calcParity => none
  | .ecOk | .ecZero | .ecPar | .ecOdd | .ecOddFix | .ecOddChain => none
  | .priority => some (.port .priority)
  | .address => some (.port .address)
  | .byte sel => some (.port (.byte sel))
  | .bitrange first last => some (.port (.bitrange first last))
  | .unique => some (.port .unique)
  | .sent => some (.port .sent)
  | .incomplete => some (.port .incomplete)
  | .txIdleOk => some (.lineEvent 0x0C true)
  | .txAbort => some (.lineEvent 0x0D true)
  | .sendbit .active => some (.lineEvent 0x0E false)
  | .sendbit .rest => some (.lineEvent 0x10 false)
  | .txEnd => some (.lineEvent 0x10 true)
  | .frame priority address payload parity => some (.pulses (encodePulses priority address payload parity))
  | .symbol width => some (.pulse width)

/-- The selector that a table word stands for when nothing but its bits is known (log 4). The 32-bit row is the Unique word.
A word of one byte is read as the command port reads it where it is one of the codes 0 to 4 (so the machine reads it right
after reset); any other as the selector `{st, a}` with the row's further condition met, but for 8, where the condition of
the first row, `SYM0`, is met. -/
def tableSelector (nbits w : Nat) : Option Selector :=
  if nbits = 32 then some (.port .unique)
  else if nbits ≠ 8 then none
  else if w < 5 then some (.command (BitVec.ofNat 3 w) 0)
  else if w < 32 then some (.lineEvent (BitVec.ofNat 5 w) (decide (w ≠ 8)))
  else none

/-- The instruction the decoder reads from a table word (log 4). -/
def decodeTableWord (nbits w : Nat) : Option Instr :=
  match tableSelector nbits w with
  | some sel =>
    match decode sel with
    | .ok i => some i
    | .error _ => none
  | none => none

end Sys2Proof
end

