-- ==== Sys2Proof/Machine/State.lean ====
section
/-! DEFINITION. The state: every register of 10_state.md R20, and the model's own fields (the parameters, what the
environment does next, the number of ticks taken, the last value handed out); its reset (R41). -/

namespace Sys2Proof.Machine

/-- The state `st` of the block's machine (R28). Codes 9 to 15 are never taken, so nine names are all there is (log 12). -/
inductive Fsm where
  /-- After reset; accepts a command. -/
  | idle
  /-- `READ` accepted; waiting for the first active sample. -/
  | awaitStart
  /-- Inside the start pulse. -/
  | startPulse
  /-- Line inactive between pulses of a frame. -/
  | gap
  /-- Inside a data pulse. -/
  | pulse
  /-- Last command finished; results stable; accepts a command. -/
  | done
  /-- `SEND` accepted; waiting for the bus to be idle. -/
  | txWait
  /-- Driving the line active. -/
  | txActive
  /-- Driving the line inactive for the rest of the slot. -/
  | txRest
  deriving DecidableEq, Repr

/-- What the environment does next: one clock tick with its input ports, or a look of the host at one accessor port, which
takes no tick (log 3). -/
inductive EnvAction where
  | tick (inp : TickInput)
  | look (p : Port)
  deriving DecidableEq, Repr

/-- The faults of the model. The block itself raises no trap (R15, R230). -/
inductive Fault where
  /-- Raised by `FINALIZE` executed on its own with `counter` below 9, where its formula "has no meaning" (R135). Safe: no
  step of the machine raises it, since end of frame tests the length first (R133). -/
  | finalizeBelowNine
  /-- Raised by `SYMBOL` of width 0, which is no pulse (R70). Safe: no step of the machine raises it. -/
  | emptyPulse
  deriving DecidableEq, Repr

/-- The refusals of the model. -/
inductive Refusal where
  /-- Raised by an arm of `exec` whose instruction has no meaning yet; no arm is left so. Safe. -/
  | notModelled (mnemonic : String)
  /-- Raised by `step` for a tick whose selector names neither an operation nor a counting tick. Safe: no state selects
  such a one, since codes 9 to 15 are never taken (R28). -/
  | noOperation
  deriving DecidableEq, Repr

/-- The registers of R20 and the model's own fields. -/
structure State where
  /-- `header` (R21). -/
  header : Header
  /-- `payload` (R22). -/
  payload : Payload
  /-- `parityBit` (R23). -/
  parityBit : Bool
  /-- `bitCount` (R24). -/
  bitCount : Count6
  /-- `sent` (R25). -/
  sent : Bool
  /-- `incomplete` (R26). -/
  incomplete : Bool
  /-- `cause` (R27); codes in R231. -/
  cause : BitVec 3
  /-- `st` (R28). -/
  st : Fsm
  /-- `counter` (R29). -/
  counter : Count6
  /-- `wcnt` (R30). -/
  wcnt : Nat
  /-- `gcnt` (R31). -/
  gcnt : Nat
  /-- `ovf` (R32). -/
  ovf : Bool
  /-- `txidx` (R34). -/
  txidx : Count6
  /-- `tcnt` (R34). -/
  tcnt : Nat
  /-- `icnt` (R34). -/
  icnt : Nat
  /-- `bcnt` (R34). -/
  bcnt : Nat
  /-- `line_out_r` (R34). -/
  lineOutR : Bool
  /-- The model's own: the parameters of R9, constant in a run (R66, log 1). -/
  cfg : Config.Params
  /-- The model's own: what the environment does next, as far as it is written down (log 2). -/
  env : List EnvAction
  /-- The model's own: ticks taken, the index of the free inputs (log 2). -/
  tick : Nat
  /-- The model's own: the last value handed out by an operation that only returns a value (log 3). -/
  result : BitVec 32
  deriving DecidableEq, Repr

/-- The machine right after reset: every register of R20 at zero, `st = IDLE` (R41). The model's own fields: the
configuration `REF1M` (log 1), nothing written down of the environment (log 2), no value handed out (log 3). -/
def State.reset : State where
  header := 0
  payload := 0
  parityBit := false
  bitCount := 0
  sent := false
  incomplete := false
  cause := 0
  st := .idle
  counter := 0
  wcnt := 0
  gcnt := 0
  ovf := false
  txidx := 0
  tcnt := 0
  icnt := 0
  bcnt := 0
  lineOutR := false
  cfg := Config.ref1m
  env := []
  tick := 0
  result := 0

end Sys2Proof.Machine
end

