-- ==== Sys2Proof/Machine/Operands.lean ====
section
/-! DEFINITION. The operand forms: bits and slices of registers (00_scope.md R11), the fields of the Unique word (30_encoding.md
R81), the pulse-width classifier (40_line_decoder.md R108), the payload length of a packet (44_encoder_tx.md R202) and the
list of pulses it is sent as (R205). -/

namespace Sys2Proof.Machine

/-- `r[i] <- b`: the bit write of R11; a position outside the register does not exist. -/
def setBit {w : Nat} (r : BitVec w) (i : Nat) (b : Bool) : BitVec w :=
  if b then r ||| (1#w <<< i) else r &&& ~~~(1#w <<< i)

/-- `r[first + len - 1 : first]`, right-aligned in 32 bits and zero-extended (R11). -/
def sliceAt (r : Payload) (first len : Nat) : BitVec 32 :=
  (r >>> first) &&& BitVec.ofNat 32 (2 ^ len - 1)

/-- The XOR of bits `n-1` to 0 of `v` (R12: `par`); 0 for the empty slice. -/
def parUpTo {w : Nat} (v : BitVec w) (n : Nat) : Bool :=
  match n with
  | 0 => false
  | n + 1 => parUpTo v n ^^ v.getLsbD n

/-- `even(n)` of R12 on the unsigned value of a 6-bit count. -/
def isEven (n : Count6) : Bool :=
  n.toNat % 2 == 0

/-- `priority = header[1:0]` (R21). -/
def priorityOf (h : Header) : BitVec 2 :=
  h.extractLsb' 0 2

/-- `address = header[7:2]` (R21). -/
def addressOf (h : Header) : BitVec 6 :=
  h.extractLsb' 2 6

/-- `header = priority + (address << 2)` (R78). -/
def headerOf (priority : BitVec 2) (address : BitVec 6) : Header :=
  address ++ priority

/-- The header field `arg[7:0]` of a Unique word (R81). -/
def argHeader (arg : UniqueWord) : Header :=
  arg.extractLsb' 0 8

/-- The payload field `arg[31:8]` of a Unique word, 24 bits (R81). -/
def argPayload (arg : UniqueWord) : BitVec 24 :=
  arg.extractLsb' 8 24

/-- `(header + (payload << 8)) mod 2^32` (R184). -/
def uniqueOf (h : Header) (p : Payload) : UniqueWord :=
  h.setWidth 32 + (p <<< 8)

/-- Payload byte `i`: `payload[8i+7 : 8i]`, for all four selector values (R182). -/
def byteOf (p : Payload) (sel : BitVec 2) : BitVec 8 :=
  p.extractLsb' (8 * sel.toNat) 8

/-- `BitRange(first, last)`: `zext_32(payload[last : first])`, 0 when `first > last` (R183). -/
def bitRangeOf (p : Payload) (first last : BitVec 5) : BitVec 32 :=
  if first.toNat ≤ last.toNat then sliceAt p first.toNat (last.toNat - first.toNat + 1) else 0

/-- `CLASSIFY(w)`: 1 at or above `THRESH_TICKS`, 0 below (R108). -/
def classify (c : Config.Params) (w : Nat) : Bool :=
  decide (c.threshTicks ≤ w)

/-- `T(b)`: the active ticks of a transmitted bit (R210, R71). -/
def activeTicks (c : Config.Params) (b : Bool) : Nat :=
  if b then c.t1Ticks else c.t0Ticks

/-- The even numbers 2, 4, ..., 24 (R202). -/
def evenLengths : List Nat :=
  (List.range 12).map (fun k => 2 * k + 2)

/-- `MinEvenBits(v)`: the least even `n >= 2` with `v >> n = 0` (R202). -/
def minEvenBits (v : BitVec 24) : Count6 :=
  BitVec.ofNat 6 ((evenLengths.find? (fun n => v >>> n == 0#24)).getD 24)

/-- `TxBits[i]` (R205): the start pulse, header, payload, and at index `bitCount + 9` the stored parity bit (R206). -/
def txBit (s : State) (i : Nat) : Bool :=
  if i = 0 then true
  else if i ≤ 8 then s.header.getLsbD (i - 1)
  else if i ≤ s.bitCount.toNat + 8 then s.payload.getLsbD (i - 9)
  else s.parityBit

/-- `TxBits`: the whole list of `bitCount + 10` pulses (R205). -/
def txBits (s : State) : List Bool :=
  (List.range (s.bitCount.toNat + 10)).map (txBit s)

/-- The data bits of a frame in arrival order: everything after the start pulse (R75). -/
def frameData (priority : BitVec 2) (address : BitVec 6) (payload : List Bool) (parity : Bool) : List Bool :=
  fieldToBits priority ++ fieldToBits address ++ payload ++ [parity]

/-- The sample `a` of a tick: `line_in == ACTIVE_LEVEL` (R16). -/
def sampleOf (c : Config.Params) (inp : TickInput) : Bool :=
  inp.lineIn == c.activeLevel

end Sys2Proof.Machine
end

