-- ==== Sys2Proof/Machine/Flags.lean ====
section
/-! DEFINITION. The flag computations: the parity of the packet (42_parity_recovery.md R150), the outcome codes
(60_exceptions.md R231), `busy` and `done` (10_state.md R33), the packed status word (R38), the codes of `st` (R28). -/

namespace Sys2Proof.Machine

/-- `CalcParity()`: the XOR of the 8 header bits and of `payload[bitCount-1:0]` (R150). -/
def calcParity (s : State) : Bool :=
  parUpTo s.header 8 ^^ parUpTo s.payload s.bitCount.toNat

/-- The outcomes that end a command (R231). -/
inductive Cause where
  | ok
  | startTimeout
  | runt
  | overrun
  | sendAbort
  | sendSkipped
  deriving DecidableEq, Repr

/-- The code of an outcome (R231). Codes 6 and 7 are never written. -/
def causeCode (c : Cause) : BitVec 3 :=
  match c with
  | .ok => 0
  | .startTimeout => 1
  | .runt => 2
  | .overrun => 3
  | .sendAbort => 4
  | .sendSkipped => 5

/-- The code of `st` (R28), visible on `dbg_st` and in the selectors of R88. -/
def stCode (f : Fsm) : BitVec 4 :=
  match f with
  | .idle => 0
  | .awaitStart => 1
  | .startPulse => 2
  | .gap => 3
  | .pulse => 4
  | .done => 5
  | .txWait => 6
  | .txActive => 7
  | .txRest => 8

/-- `done = (st == DONE)` (R33). -/
def isDone (s : State) : Bool :=
  s.st == .done

/-- `busy = (st != IDLE and st != DONE)` (R33). -/
def isBusy (s : State) : Bool :=
  s.st != .idle && s.st != .done

/-- The 16-bit port `status` (R38): reserved 15:14, `BITCOUNT` 13:8, `CAUSE` 7:5, `DONE` 4, `BUSY` 3, `PARITY` 2,
`INCOMPLETE` 1, `SENT` 0. -/
def statusWord (s : State) : BitVec 16 :=
  (0#2 ++ s.bitCount ++ s.cause ++ BitVec.ofBool (isDone s) ++ BitVec.ofBool (isBusy s) ++ BitVec.ofBool s.parityBit ++
    BitVec.ofBool s.incomplete ++ BitVec.ofBool s.sent).setWidth 16

end Sys2Proof.Machine
end

