-- ==== Sys2Proof/Machine/Ops.lean ====
section
/-! DEFINITION. The operations that the meanings share: reset, the initialising part of a command, the flagged outcome (the
block's exception) and the return from it, the storing of a bit, the end of a frame, ErrorCheck, the waits and the slots. -/

namespace Sys2Proof.Machine

/-- The rest of a step done only where the meaning answers a next state. -/
def onNext (f : State → State) (o : Host.Outcome State Fault Refusal) : Host.Outcome State Fault Refusal :=
  match o with
  | .next s => .next (f s)
  | .fault r => .fault r
  | .refused r => .refused r

/-! ### Reset, outcome, initialisation -/

/-- The step of the block at a tick with `rst = 1`: every register takes its reset value (R260, R41). The parameters, the
environment and the host's last value are no registers of the block (log 1, 2, 3). -/
def resetRegisters (s : State) : State :=
  { State.reset with cfg := s.cfg, env := s.env, tick := s.tick, result := s.result }

/-- `raise C` (R15, R240): the one entry into a flagged outcome. `cause <- code(C); st <- DONE`, no other write. -/
def raise (c : Cause) (s : State) : State :=
  { s with cause := causeCode c, st := .done }

/-- The return from an outcome by `SEND` (R241): `cause <- 0`, the transmit registers cleared (R34, R207, log 10). -/
def clearForSend (s : State) : State :=
  { s with cause := 0, icnt := 0, bcnt := 0, txidx := 0, tcnt := 0, lineOutR := false }

/-- `init_packet()`: the initialising part of `READ`, `SET` and `SETSEND` (R43), the return from an outcome by one of them
(R241). -/
def initPacket (s : State) : State :=
  { s with
    header := 0
    payload := 0
    parityBit := false
    bitCount := 0
    sent := false
    incomplete := false
    cause := 0
    counter := 0
    wcnt := 0
    gcnt := 0
    ovf := false }

/-- A command is accepted only in `IDLE` or `DONE`; in a busy state it is ignored (R39, R101). -/
def whenAccepting (f : State → State) (s : State) : State :=
  if isBusy s then s else f s

/-! ### Frame assembler -/

/-- `SHIFT_IN(b)` (R131). -/
def shiftIn (b : Bool) (s : State) : State :=
  if s.counter.toNat < 8 then
    { s with header := setBit s.header s.counter.toNat b, counter := s.counter + 1 }
  else if s.counter.toNat < Config.frameMax then
    { s with payload := setBit s.payload (s.counter.toNat - 8) b, counter := s.counter + 1 }
  else { s with ovf := true }

/-- `FINALIZE` (R134): the last stored bit is the parity bit, `bitCount <- counter - 9`. -/
def finalize (s : State) : State :=
  { s with
    parityBit := s.payload.getLsbD (s.counter.toNat - 9)
    payload := setBit s.payload (s.counter.toNat - 9) false
    bitCount := BitVec.ofNat 6 (s.counter.toNat - 9) }

/-! ### ErrorCheck -/

/-- `payload[at + k - 1 : at] <- h[k - 1 : 0]`, order kept (the first statement of `xfer`, R152). -/
def copyBits (p : Payload) (h : Header) (pos k : Nat) : Payload :=
  match k with
  | 0 => p
  | k + 1 => setBit (copyBits p h pos k) (pos + k) (h.getLsbD k)

/-- `xfer(k)` (R152): copy the low `k` header bits above the payload run, shift the header left by `k`, lengthen the run,
set `incomplete`. -/
def xfer (k : Nat) (s : State) : State :=
  { s with
    payload := copyBits s.payload s.header s.bitCount.toNat k
    header := s.header <<< k
    bitCount := s.bitCount + BitVec.ofNat 6 k
    incomplete := true }

/-- `header[1:0] <- v` (R154, R155). -/
def setLowTwo (v : BitVec 2) (s : State) : State :=
  { s with header := setBit (setBit s.header 0 (v.getLsbD 0)) 1 (v.getLsbD 1) }

/-- `EC_ZERO` (R154). -/
def ecZero (s : State) : State :=
  setLowTwo 0b11 (xfer 2 s)

/-- `EC_PAR` (R155). -/
def ecPar (s : State) : State :=
  setLowTwo 0b01 (xfer 2 s)

/-- `EC_OK` (R153): no statement. -/
def ecOk (s : State) : State :=
  s

/-- The even case of `ErrorCheck` (R151): the zero header is tested before the parity (90_conflicts.md C1). -/
def errorCheckEven (s : State) : State :=
  if s.header = 0 then ecZero s
  else if calcParity s != s.parityBit then ecPar s
  else ecOk s

/-- `EC_ODD_FIX` (R157): `header <- header + 1`. -/
def ecOddFix (s : State) : State :=
  { s with header := s.header + 1 }

/-- `EC_ODD_CHAIN` (R158): the even case runs once on the shifted packet (log 9). -/
def ecOddChain (s : State) : State :=
  errorCheckEven s

/-- What follows the one-bit transfer: the recomputed parity decides (R156). -/
def ecOddRest (s : State) : State :=
  if calcParity s != s.parityBit then ecOddFix s else ecOddChain s

/-- `EC_ODD` (R156): the one-bit transfer, then `EC_ODD_FIX` or `EC_ODD_CHAIN`. -/
def ecOdd (s : State) : State :=
  ecOddRest (xfer 1 s)

/-- `ErrorCheck()` (R151), its recursion of depth two unrolled (R159, log 9). -/
def errorCheck (s : State) : State :=
  if isEven s.bitCount then errorCheckEven s else ecOdd s

/-- Completion of a reception (R137): `sent <- 1; st <- DONE`. -/
def completeReception (s : State) : State :=
  { s with sent := true, st := .done }

/-- `end_of_frame()` (R133): the overflow is tested first, then the length. -/
def endOfFrame (s : State) : State :=
  if s.ovf then raise .overrun s
  else if s.counter.toNat < 9 then raise .runt s
  else completeReception (errorCheck (finalize s))

/-- `Decode(L)` (R115): `init_packet`, `SHIFT_IN` of each data bit in order, `end_of_frame`. -/
def decodeFrame (bits : List Bool) (s : State) : State :=
  endOfFrame (bits.foldl (fun t b => shiftIn b t) (initPacket s))

/-! ### Line decoder -/

/-- The first active sample of a pulse: `wcnt <- 1` and the state that counts it (R102, R106). -/
def beginPulse (f : Fsm) (s : State) : State :=
  { s with wcnt := 1, st := f }

/-- The first inactive sample after a pulse: `gcnt <- 1; st <- GAP` (R105, R110). -/
def beginGap (s : State) : State :=
  { s with gcnt := 1, st := .gap }

/-- A further active sample of a pulse: `wcnt <- min(wcnt + 1, WCNT_MAX)` (R30, R104, R109). -/
def countWidth (s : State) : State :=
  { s with wcnt := min (s.wcnt + 1) s.cfg.wcntMax }

/-- `gcnt <- gcnt + 1` (R103, R107). -/
def countSilence (s : State) : State :=
  { s with gcnt := s.gcnt + 1 }

/-- The end of a data pulse (R110): `SHIFT_IN(b)`, then the gap begins. -/
def endPulse (b : Bool) (s : State) : State :=
  beginGap (shiftIn b s)

/-- An inactive sample in `AWAIT_START` (R103). -/
def startSilence (s : State) : State :=
  if s.gcnt + 1 = s.cfg.maxLoops then raise .startTimeout (countSilence s) else countSilence s

/-- An inactive sample in `GAP` (R107). -/
def gapSilence (s : State) : State :=
  if s.gcnt + 1 = s.cfg.maxLoops then endOfFrame (countSilence s) else countSilence s

/-! ### Encoder and transmitter -/

/-- The statements of `SET` without its last one (R201, R214). -/
def loadFields (arg : UniqueWord) (s : State) : State :=
  let t := initPacket s
  { t with
    header := argHeader arg
    payload := (argPayload arg).setWidth 32
    bitCount := minEvenBits (argPayload arg) }

/-- `parityBit <- CalcParity()` on the values just written (R201). -/
def storeParity (s : State) : State :=
  { s with parityBit := calcParity s }

/-- `SET` without `st <- DONE` (R201, R214). -/
def loadPacket (arg : UniqueWord) (s : State) : State :=
  storeParity (loadFields arg s)

/-- The statements of `SEND` (R207): skipped with `HAS_TX = 0` or an empty packet, else the idle wait begins. -/
def beginSend (s : State) : State :=
  if s.cfg.hasTx = false ∨ s.bitCount = 0 then raise .sendSkipped s
  else { clearForSend s with st := .txWait }

/-- A busy sample in `TX_WAIT` (R208). -/
def busySample (s : State) : State :=
  let t := { s with icnt := 0, bcnt := s.bcnt + 1 }
  if s.bcnt + 1 = s.cfg.maxLoops then raise .sendAbort t else t

/-- A slot begins: `tcnt <- 0; line_out_r <- 1; st <- TX_ACTIVE` for the pulse of index `i` (R209, R211). -/
def beginSlot (i : Count6) (s : State) : State :=
  { s with txidx := i, tcnt := 0, lineOutR := true, st := .txActive }

/-- An idle sample in `TX_WAIT` (R209). -/
def idleSample (s : State) : State :=
  let t := { s with bcnt := 0, icnt := s.icnt + 1 }
  if s.icnt + 1 = s.cfg.waitLoops then beginSlot 0 t else t

/-- `tcnt <- tcnt + 1` (R210, R211). -/
def countSlot (s : State) : State :=
  { s with tcnt := s.tcnt + 1 }

/-- `SENDBIT`, active part (R210). -/
def slotActive (s : State) : State :=
  if s.tcnt + 1 = activeTicks s.cfg (txBit s s.txidx.toNat) then
    { countSlot s with lineOutR := false, st := .txRest }
  else countSlot s

/-- The statements of `TX_END` (R212): `sent <- 1; st <- DONE`. -/
def endTransmission (s : State) : State :=
  { s with sent := true, st := .done }

/-- `SENDBIT`, rest of the slot (R211). -/
def slotRest (s : State) : State :=
  if s.tcnt + 1 = s.cfg.slotTicks then
    if s.txidx.toNat = s.bitCount.toNat + 9 then endTransmission (countSlot s)
    else beginSlot (s.txidx + 1) (countSlot s)
  else countSlot s

/-! ### Values handed out -/

/-- An operation that only returns a value: no register changes, the asker has the value (R57, log 3). -/
def handOut (v : BitVec 32) (s : State) : State :=
  { s with result := v }

/-- A bit as a 32-bit value. -/
def bitValue (b : Bool) : BitVec 32 :=
  (BitVec.ofBool b).setWidth 32

end Sys2Proof.Machine
end

