-- ==== Sys2Proof/Machine/Ports.lean ====
section
/-! DEFINITION. The output ports (10_state.md R40): all functions of the registers and of the selector inputs of the tick. -/

namespace Sys2Proof.Machine

/-- The value on an accessor's port, zero-extended to 32 bits (43_accessors.md R180 to R186). -/
def portValue (p : Port) (s : State) : BitVec 32 :=
  match p with
  | .priority => (priorityOf s.header).setWidth 32
  | .address => (addressOf s.header).setWidth 32
  | .byte sel => (byteOf s.payload sel).setWidth 32
  | .bitrange first last => bitRangeOf s.payload first last
  | .unique => uniqueOf s.header s.payload
  | .sent => bitValue s.sent
  | .incomplete => bitValue s.incomplete

/-- All output ports of R40. -/
structure Ports where
  /-- `line_out`: a level where the port exists (`HAS_TX = 1`), else none (R34, R40, log 15). -/
  lineOut : Option Bool
  headerO : Header
  payloadO : Payload
  bitCount : Count6
  parityBit : Bool
  sent : Bool
  incomplete : Bool
  priority : BitVec 2
  address : BitVec 6
  byteO : BitVec 8
  bitrangeO : BitVec 32
  uniqueO : UniqueWord
  busy : Bool
  done : Bool
  cause : BitVec 3
  status : BitVec 16
  dbgSt : BitVec 4
  dbgCounter : Count6
  deriving DecidableEq, Repr

/-- The level on `line_out`: `ACTIVE_LEVEL` when `line_out_r = 1`, the other level when it is 0 (R34). -/
def lineOutLevel (s : State) : Option Bool :=
  if s.cfg.hasTx then some (s.lineOutR == s.cfg.activeLevel) else none

/-- The output ports at a tick whose selector inputs are those of `inp` (R40, R187). -/
def portsOf (inp : TickInput) (s : State) : Ports where
  lineOut := lineOutLevel s
  headerO := s.header
  payloadO := s.payload
  bitCount := s.bitCount
  parityBit := s.parityBit
  sent := s.sent
  incomplete := s.incomplete
  priority := priorityOf s.header
  address := addressOf s.header
  byteO := byteOf s.payload inp.byteSel
  bitrangeO := bitRangeOf s.payload inp.brFirst inp.brLast
  uniqueO := uniqueOf s.header s.payload
  busy := isBusy s
  done := isDone s
  cause := s.cause
  status := statusWord s
  dbgSt := stCode s.st
  dbgCounter := s.counter

end Sys2Proof.Machine
end

