-- ==== Sys2Proof/Machine/Accessor.lean ====
section
/-! DEFINITION. The result accessors (43_accessors.md R180 to R186): pure reads (20_memory.md R57); the value on the port is
handed to the host (log 3). -/

namespace Sys2Proof.Machine

/-- `PRIORITY` (R180). -/
def execPriority (s : State) : Host.Outcome State Fault Refusal :=
  .next (handOut (portValue .priority s) s)

/-- `ADDRESS` (R181). -/
def execAddress (s : State) : Host.Outcome State Fault Refusal :=
  .next (handOut (portValue .address s) s)

/-- `BYTE` (R182). -/
def execByte (sel : BitVec 2) (s : State) : Host.Outcome State Fault Refusal :=
  .next (handOut (portValue (.byte sel) s) s)

/-- `BITRANGE` (R183). -/
def execBitrange (first last : BitVec 5) (s : State) : Host.Outcome State Fault Refusal :=
  .next (handOut (portValue (.bitrange first last) s) s)

/-- `UNIQUE` (R184). -/
def execUnique (s : State) : Host.Outcome State Fault Refusal :=
  .next (handOut (portValue .unique s) s)

/-- `SENT` (R185). -/
def execSent (s : State) : Host.Outcome State Fault Refusal :=
  .next (handOut (portValue .sent s) s)

/-- `INCOMPLETE` (R186). -/
def execIncomplete (s : State) : Host.Outcome State Fault Refusal :=
  .next (handOut (portValue .incomplete s) s)

end Sys2Proof.Machine
end

