-- ==== Sys2Proof/Machine/Assembler.lean ====
section
/-! DEFINITION. The internal operations of the frame assembler (41_frame_assembler.md R131 to R136). -/

namespace Sys2Proof.Machine

/-- `SHIFT_IN(b)` (R131). -/
def execShiftIn (b : Bool) (s : State) : Host.Outcome State Fault Refusal :=
  .next (shiftIn b s)

/-- `FINALIZE` (R134), on its operands `9 <= counter`; below 9 its formula "has no meaning" (R135, log 8). -/
def execFinalize (s : State) : Host.Outcome State Fault Refusal :=
  if s.counter.toNat < 9 then .fault .finalizeBelowNine else .next (finalize s)

/-- `RUNT` (R135): `raise RUNT`. -/
def execRunt (s : State) : Host.Outcome State Fault Refusal :=
  .next (raise .runt s)

/-- `OVERRUN` (R136): `raise OVERRUN`. -/
def execOverrun (s : State) : Host.Outcome State Fault Refusal :=
  .next (raise .overrun s)

end Sys2Proof.Machine
end

