-- ==== Sys2Proof/Machine/Command.lean ====
section
/-! DEFINITION. The host commands: `NOP` (40_line_decoder.md R112), `READ` (R101), `SET`, `SEND`, `SETSEND`
(44_encoder_tx.md R201, R207, R214). Each is ignored in a busy state (10_state.md R39). -/

namespace Sys2Proof.Machine

/-- `NOP` (R112): no statement. -/
def execNop (s : State) : Host.Outcome State Fault Refusal :=
  .next s

/-- `READ` (R101): `init_packet(); st <- AWAIT_START`. -/
def execRead (s : State) : Host.Outcome State Fault Refusal :=
  .next (whenAccepting (fun t => { initPacket t with st := .awaitStart }) s)

/-- `SET arg` (R201): load the packet; `st <- DONE`. -/
def execSet (arg : UniqueWord) (s : State) : Host.Outcome State Fault Refusal :=
  .next (whenAccepting (fun t => { loadPacket arg t with st := .done }) s)

/-- `SEND` (R207). -/
def execSend (s : State) : Host.Outcome State Fault Refusal :=
  .next (whenAccepting beginSend s)

/-- `SETSEND arg` (R214): the statements of `SET` without its last one, then those of `SEND` on the values just written. -/
def execSetsend (arg : UniqueWord) (s : State) : Host.Outcome State Fault Refusal :=
  .next (whenAccepting (fun t => beginSend (loadPacket arg t)) s)

end Sys2Proof.Machine
end

