-- ==== Sys2Proof/Machine/Format.lean ====
section
/-! DEFINITION. The two format rows: a whole frame as a receiver takes it (30_encoding.md R75, 40_line_decoder.md R115) and the
value of one symbol (30_encoding.md R70). -/

namespace Sys2Proof.Machine

/-- `FRAME` (R75): `Decode` of its data bits (R115), which is what a reception makes of the frame (log 6). -/
def execFrame (priority : BitVec 2) (address : BitVec 6) (payload : List Bool) (parity : Bool) (s : State) :
    Host.Outcome State Fault Refusal :=
  .next (decodeFrame (frameData priority address payload parity) s)

/-- `SYMBOL` (R70): its value is `CLASSIFY` of its width (R108), handed to whoever asked; width 0 is no pulse (log 7). -/
def execSymbol (width : Nat) (s : State) : Host.Outcome State Fault Refusal :=
  if width = 0 then .fault .emptyPulse else .next (handOut (bitValue (classify s.cfg width)) s)

end Sys2Proof.Machine
end

