-- ==== Sys2Proof/Machine/Line.lean ====
section
/-! DEFINITION. The wire events of the line decoder (40_line_decoder.md R102 to R110). -/

namespace Sys2Proof.Machine

/-- `START` (R102): `wcnt <- 1; st <- START_PULSE`. -/
def execStart (s : State) : Host.Outcome State Fault Refusal :=
  .next (beginPulse .startPulse s)

/-- `START_TIMEOUT` (R103): the whole rule, the outcome raised at the `MAXLOOPS`-th inactive sample. -/
def execStartTimeout (s : State) : Host.Outcome State Fault Refusal :=
  .next (startSilence s)

/-- `START_END` (R105): `gcnt <- 1; st <- GAP`. -/
def execStartEnd (s : State) : Host.Outcome State Fault Refusal :=
  .next (beginGap s)

/-- `PULSE_BEGIN` (R106): `wcnt <- 1; st <- PULSE`. -/
def execPulseBegin (s : State) : Host.Outcome State Fault Refusal :=
  .next (beginPulse .pulse s)

/-- `SYM0` (R110): a data pulse below the threshold ends; its bit is 0. -/
def execSym0 (s : State) : Host.Outcome State Fault Refusal :=
  .next (endPulse false s)

/-- `SYM1` (R110): a data pulse at or above the threshold ends; its bit is 1. -/
def execSym1 (s : State) : Host.Outcome State Fault Refusal :=
  .next (endPulse true s)

/-- `EOF` (R107): the whole rule, `end_of_frame()` at the `MAXLOOPS`-th inactive sample. -/
def execEof (s : State) : Host.Outcome State Fault Refusal :=
  .next (gapSilence s)

end Sys2Proof.Machine
end

