-- ==== Sys2Proof/Machine/Recovery.lean ====
section
/-! DEFINITION. The parity function and the cases of ErrorCheck (42_parity_recovery.md R150 to R158). -/

namespace Sys2Proof.Machine

/-- `CALC_PARITY` (R150): writes no register; the parity is handed to whoever asked. -/
def execCalcParity (s : State) : Host.Outcome State Fault Refusal :=
  .next (handOut (bitValue (calcParity s)) s)

/-- `EC_OK` (R153): the frame is accepted unmodified. -/
def execEcOk (s : State) : Host.Outcome State Fault Refusal :=
  .next (ecOk s)

/-- `EC_ZERO` (R154): `xfer(2)`, then the two low header bits are `11`. -/
def execEcZero (s : State) : Host.Outcome State Fault Refusal :=
  .next (ecZero s)

/-- `EC_PAR` (R155): `xfer(2)`, then the two low header bits are `01`. -/
def execEcPar (s : State) : Host.Outcome State Fault Refusal :=
  .next (ecPar s)

/-- `EC_ODD` (R156): `xfer(1)`, then the recomputed parity decides between `EC_ODD_FIX` and `EC_ODD_CHAIN`. -/
def execEcOdd (s : State) : Host.Outcome State Fault Refusal :=
  .next (ecOdd s)

/-- `EC_ODD_FIX` (R157): `header <- header + 1`. -/
def execEcOddFix (s : State) : Host.Outcome State Fault Refusal :=
  .next (ecOddFix s)

/-- `EC_ODD_CHAIN` (R158): the even case on the shifted packet. -/
def execEcOddChain (s : State) : Host.Outcome State Fault Refusal :=
  .next (ecOddChain s)

end Sys2Proof.Machine
end

