-- ==== Sys2Proof/Machine/Transmit.lean ====
section
/-! DEFINITION. The transmit events and steps (44_encoder_tx.md R208 to R212). -/

namespace Sys2Proof.Machine

/-- `TX_IDLE_OK` (R209): the whole rule, the start pulse begins at the `WAITLOOPS`-th idle sample. -/
def execTxIdleOk (s : State) : Host.Outcome State Fault Refusal :=
  .next (idleSample s)

/-- `TX_ABORT` (R208): the whole rule, the outcome raised at the `MAXLOOPS`-th busy sample. -/
def execTxAbort (s : State) : Host.Outcome State Fault Refusal :=
  .next (busySample s)

/-- `SENDBIT`: the active part (R210) or the rest of the slot (R211). -/
def execSendbit (part : SlotPart) (s : State) : Host.Outcome State Fault Refusal :=
  match part with
  | .active => .next (slotActive s)
  | .rest => .next (slotRest s)

/-- `TX_END` (R212), with the first statement of R211 that the same tick executes before it (log 9). -/
def execTxEnd (s : State) : Host.Outcome State Fault Refusal :=
  .next (endTransmission (countSlot s))

end Sys2Proof.Machine
end

