-- ==== Sys2Proof/Machine/Dispatch.lean ====
section
/-! DEFINITION. One arm per operation, each the one call of its meaning. -/

namespace Sys2Proof.Machine

def exec (i : Instr) (s : State) : Host.Outcome State Fault Refusal :=
  match i with
  | .nop => Sys2Proof.Machine.execNop s
  | .read => Sys2Proof.Machine.execRead s
  | .set arg => Sys2Proof.Machine.execSet arg s
  | .send => Sys2Proof.Machine.execSend s
  | .setsend arg => Sys2Proof.Machine.execSetsend arg s
  | .start => Sys2Proof.Machine.execStart s
  | .startTimeout => Sys2Proof.Machine.execStartTimeout s
  | .startEnd => Sys2Proof.Machine.execStartEnd s
  | .pulseBegin => Sys2Proof.Machine.execPulseBegin s
  | .sym0 => Sys2Proof.Machine.execSym0 s
  | .sym1 => Sys2Proof.Machine.execSym1 s
  | .eof => Sys2Proof.Machine.execEof s
  | .shiftIn b => Sys2Proof.Machine.execShiftIn b s
  | .finalize => Sys2Proof.Machine.execFinalize s
  | .runt => Sys2Proof.Machine.execRunt s
  | .overrun => Sys2Proof.Machine.execOverrun s
  | .calcParity => Sys2Proof.Machine.execCalcParity s
  | .ecOk => Sys2Proof.Machine.execEcOk s
  | .ecZero => Sys2Proof.Machine.execEcZero s
  | .ecPar => Sys2Proof.Machine.execEcPar s
  | .ecOdd => Sys2Proof.Machine.execEcOdd s
  | .ecOddFix => Sys2Proof.Machine.execEcOddFix s
  | .ecOddChain => Sys2Proof.Machine.execEcOddChain s
  | .priority => Sys2Proof.Machine.execPriority s
  | .address => Sys2Proof.Machine.execAddress s
  | .byte sel => Sys2Proof.Machine.execByte sel s
  | .bitrange first last => Sys2Proof.Machine.execBitrange first last s
  | .unique => Sys2Proof.Machine.execUnique s
  | .sent => Sys2Proof.Machine.execSent s
  | .incomplete => Sys2Proof.Machine.execIncomplete s
  | .txIdleOk => Sys2Proof.Machine.execTxIdleOk s
  | .txAbort => Sys2Proof.Machine.execTxAbort s
  | .sendbit part => Sys2Proof.Machine.execSendbit part s
  | .txEnd => Sys2Proof.Machine.execTxEnd s
  | .frame priority address payload parity => Sys2Proof.Machine.execFrame priority address payload parity s
  | .symbol width => Sys2Proof.Machine.execSymbol width s

end Sys2Proof.Machine
end

