-- ==== Sys2Proof/Machine/Fetch.lean ====
section
/-! DEFINITION. What selects the operation of a step (30_encoding.md R88, 40_line_decoder.md R113): the environment's next
action, the selector a tick makes of the state and its inputs, and the ticks that only count. Nothing is fetched from a
memory (20_memory.md R59). -/

namespace Sys2Proof.Machine

/-- What the environment does next: the entry the state writes down, or a tick with free inputs (R7, log 2). -/
def actionOf (s : State) : EnvAction :=
  match s.env with
  | [] => .tick (Config.envInput s.tick)
  | action :: _ => action

/-- The selector code `{st, a}` (R88): the code of `st` above the sample. -/
def lineCode (f : Fsm) (a : Bool) : LineCode :=
  stCode f ++ BitVec.ofBool a

/-- The further condition of the rows of a selector (R88), from the counters before the tick. -/
def atLimit (a : Bool) (s : State) : Bool :=
  match s.st with
  | .awaitStart | .gap => s.gcnt + 1 == s.cfg.maxLoops
  | .pulse => classify s.cfg s.wcnt
  | .txWait => if a then s.bcnt + 1 == s.cfg.maxLoops else s.icnt + 1 == s.cfg.waitLoops
  | .txRest => s.tcnt + 1 == s.cfg.slotTicks && s.txidx.toNat == s.bitCount.toNat + 9
  | .idle | .done | .startPulse | .txActive => false

/-- The selector of a tick with `rst = 0`: the command port where a command is accepted (R39), else `{st, a}`. -/
def tickSelector (inp : TickInput) (s : State) : Selector :=
  if inp.cmdValid && !isBusy s then .command inp.cmd inp.arg
  else .lineEvent (lineCode s.st (sampleOf s.cfg inp)) (atLimit (sampleOf s.cfg inp) s)

/-- A tick at which R113 lists no event (R103, R104, R107, R109, R208, R209): the counting arm of the state's rule. -/
def countingTick (a : Bool) (s : State) : State :=
  match s.st with
  | .awaitStart => startSilence s
  | .startPulse | .pulse => countWidth s
  | .gap => gapSilence s
  | .txWait => if a then busySample s else idleSample s
  | .idle | .done | .txActive | .txRest => s

/-- The end of a tick: its inputs are past. -/
def afterTick (s : State) : State :=
  { s with env := s.env.tail, tick := s.tick + 1 }

/-- The end of a look: no tick has passed (log 3). -/
def afterLook (s : State) : State :=
  { s with env := s.env.tail }

/-! ### Placing an instruction for the very next step (log 4, log 13) -/

/-- Tick inputs that offer nothing: no reset, no command, the line at the level of sample `a`. -/
def quietTick (c : Config.Params) (a : Bool) : TickInput where
  rst := false
  lineIn := a == c.activeLevel
  cmdValid := false
  cmd := 0
  arg := 0
  byteSel := 0
  brFirst := 0
  brLast := 0

/-- The state of a code (R28); codes 9 to 15 are never taken and give `IDLE`. -/
def stOfCode (code : Nat) : Fsm :=
  match code with
  | 1 => .awaitStart
  | 2 => .startPulse
  | 3 => .gap
  | 4 => .pulse
  | 5 => .done
  | 6 => .txWait
  | 7 => .txActive
  | 8 => .txRest
  | _ => .idle

/-- The counters at which the further condition of a selector comes out as asked (R88). -/
def placeCounters (a limit : Bool) (s : State) : State :=
  match s.st with
  | .awaitStart | .gap => if limit then { s with gcnt := s.cfg.maxLoops - 1 } else s
  | .pulse => { s with wcnt := if limit then s.cfg.threshTicks else s.cfg.threshTicks - 1 }
  | .txWait =>
    if !limit then s
    else if a then { s with bcnt := s.cfg.maxLoops - 1 } else { s with icnt := s.cfg.waitLoops - 1 }
  | .txRest => if limit then { s with tcnt := s.cfg.slotTicks - 1, txidx := s.bitCount + 9 } else s
  | .idle | .done | .startPulse | .txActive => s

/-- The state whose very next step runs what a selector names: the environment's next action, and for a wire or transmit
row the state and the counters that select it. -/
def placeSelector (sel : Selector) (s : State) : State :=
  match sel with
  | .command cmd arg =>
    { s with
      st := if isBusy s then .idle else s.st
      env := .tick { quietTick s.cfg false with cmdValid := true, cmd := cmd, arg := arg } :: s.env }
  | .lineEvent code limit =>
    let a := code.getLsbD 0
    let t := placeCounters a limit { s with st := stOfCode (code.toNat / 2) }
    { t with env := .tick (quietTick s.cfg a) :: s.env }
  | .port p => { s with env := .look p :: s.env }
  | .pulses _ | .pulse _ => s

/-- The same for a word of the opcode table; a word of no row leaves the state as it is. -/
def placeWord (nbits w : Nat) (s : State) : State :=
  match tableSelector nbits w with
  | some sel => placeSelector sel s
  | none => s

end Sys2Proof.Machine
end

