-- ==== Sys2Proof/Machine/Tick.lean ====
section
/-! DEFINITION. One action of the environment: a tick of the block (00_scope.md R7, 60_exceptions.md R239) or a look of the
host at a port (43_accessors.md). -/

namespace Sys2Proof.Machine

/-- A look: the accessor runs, no tick passes (log 3). -/
def lookStep (p : Port) (s : State) : Host.Outcome State Fault Refusal :=
  onNext afterLook (exec (decodePort p) s)

/-- A tick without reset: the selected operation runs, or the tick only counts (R113). -/
def runTick (inp : TickInput) (s : State) : Host.Outcome State Fault Refusal :=
  match decode (tickSelector inp s) with
  | .ok i => onNext afterTick (exec i s)
  | .error .countingTick => .next (afterTick (countingTick (sampleOf s.cfg inp) s))
  | .error _ => .refused .noOperation

/-- A tick: `rst = 1` wins over everything (R239, R260). -/
def tickStep (inp : TickInput) (s : State) : Host.Outcome State Fault Refusal :=
  if inp.rst then .next (afterTick (resetRegisters s)) else runTick inp s

/-- The step for an action. -/
def actionStep (action : EnvAction) (s : State) : Host.Outcome State Fault Refusal :=
  match action with
  | .tick inp => tickStep inp s
  | .look p => lookStep p s

end Sys2Proof.Machine
end

