-- ==== Sys2Proof/Machine/Step.lean ====
section
/-! DEFINITION. The step: the environment's next action, taken. -/

namespace Sys2Proof.Machine

/-- One step (00_scope.md R7): a total function of the state, which holds that tick's inputs. -/
def step (s : State) : Host.Outcome State Fault Refusal :=
  actionStep (actionOf s) s

/-- The state in which the very next step runs the instruction of a table word (log 4, log 13). -/
def State.withFetchWord (s : State) (nbits w : Nat) : State :=
  placeWord nbits w s

end Sys2Proof.Machine
end

