-- ==== Sys2Proof/Safety.lean ====
section
/-! DEFINITION. The terms the statements use: the invariant of the machine (10_state.md R22 to R34, R42), what a run looks
like from outside (the samples of the coming ticks, waveforms), and when two states hold the same packet. -/

namespace Sys2Proof.Machine

/-! ### The invariant -/

/-- The states of a reception: `READ` accepted and not ended (R28). -/
abbrev Receiving (s : State) : Prop :=
  s.st = .awaitStart ∨ s.st = .startPulse ∨ s.st = .gap ∨ s.st = .pulse

/-- The states of a transmission (R28). -/
abbrev Sending (s : State) : Prop :=
  s.st = .txWait ∨ s.st = .txActive ∨ s.st = .txRest

/-- No payload bit at or above position `n` is set: `payload[31:n] = 0` (R22). -/
abbrev ClearFrom (p : Payload) (n : Nat) : Prop :=
  ∀ j : Nat, n ≤ j → p.getLsbD j = false

/-- Every register is within the range the spec gives it (R24, R29 to R31, R34, R231). -/
structure InRange (s : State) : Prop where
  bitCount : s.bitCount.toNat ≤ Config.payloadW
  counter : s.counter.toNat ≤ Config.frameMax
  cause : s.cause.toNat ≤ 5
  wcnt : s.wcnt ≤ s.cfg.wcntMax
  gcnt : s.gcnt ≤ s.cfg.maxLoops
  tcnt : s.tcnt ≤ s.cfg.slotTicks
  icnt : s.icnt ≤ s.cfg.waitLoops
  bcnt : s.bcnt ≤ s.cfg.maxLoops
  txidx : s.txidx.toNat ≤ Config.payloadW + 9

/-- What holds during a reception: the packet flags at their defaults (R43), and only the positions already received can
hold a 1 (R131 corner cases). -/
structure ReceptionClean (s : State) : Prop where
  parityBit : s.parityBit = false
  bitCount : s.bitCount = 0
  sent : s.sent = false
  incomplete : s.incomplete = false
  cause : s.cause = 0
  header : ∀ j : Nat, s.counter.toNat ≤ j → s.header.getLsbD j = false
  payload : ClearFrom s.payload (s.counter.toNat - 8)

/-- What holds of the packet outside a reception (R22, R42): whole bit pairs, nothing above the run but after an overlong
frame, `incomplete` only with `sent`. -/
structure PacketClean (s : State) : Prop where
  even : s.bitCount.toNat % 2 = 0
  payload : s.ovf = false → ClearFrom s.payload s.bitCount.toNat
  overlong : s.ovf = true → s.bitCount = 0
  incomplete : s.incomplete = true → s.sent = true

/-- What holds of the counters in each state that counts (R30, R31, R34). -/
structure CountersLive (s : State) : Prop where
  unstarted : s.st = .awaitStart ∨ s.st = .startPulse → s.counter = 0
  silence : s.st = .awaitStart ∨ s.st = .gap → s.gcnt < s.cfg.maxLoops
  gap : s.st = .gap → 1 ≤ s.gcnt
  width : s.st = .startPulse ∨ s.st = .pulse → 1 ≤ s.wcnt
  overflow : s.ovf = true → s.counter.toNat = Config.frameMax
  wait : s.st = .txWait → s.icnt < s.cfg.waitLoops ∧ s.bcnt < s.cfg.maxLoops
  active : s.st = .txActive → s.tcnt < activeTicks s.cfg (txBit s s.txidx.toNat)
  rest : s.st = .txRest → activeTicks s.cfg (txBit s s.txidx.toNat) ≤ s.tcnt ∧ s.tcnt < s.cfg.slotTicks

/-- What holds of the transmitter (R34, R207, R212): the line is driven in `TX_ACTIVE` and only there, a packet that is sent is
not empty, `cause` is 0 while it is sent, and without a transmitter its registers stay zero. -/
structure TransmitterClean (s : State) : Prop where
  line : s.lineOutR = true ↔ s.st = .txActive
  packet : Sending s → s.bitCount ≠ 0 ∧ s.txidx.toNat ≤ s.bitCount.toNat + 9
  cause : Sending s → s.cause = 0
  absent : s.cfg.hasTx = false →
    ¬ Sending s ∧ s.txidx = 0 ∧ s.tcnt = 0 ∧ s.icnt = 0 ∧ s.bcnt = 0

/-- `IDLE` is the state after reset and nothing else: every register still holds its reset value (R28, R41). -/
abbrev IdleIsReset (s : State) : Prop :=
  s.st = .idle → s = resetRegisters s

/-- The invariant of the machine, for parameters that meet R265. -/
structure Inv (s : State) : Prop where
  valid : s.cfg.Valid
  range : InRange s
  reception : Receiving s → ReceptionClean s
  packet : ¬ Receiving s → PacketClean s
  counters : CountersLive s
  transmitter : TransmitterClean s
  idle : IdleIsReset s

/-! ### Runs and waveforms -/

/-- `n` steps of the machine, stopping at a fault or a refusal: `Host.Core.run` of `Sys2Proof.core` (`runSteps_eq_run`). -/
def runSteps (n : Nat) (s : State) : Host.Outcome State Fault Refusal :=
  match n with
  | 0 => .next s
  | n + 1 =>
    match step s with
    | .next t => runSteps n t
    | .fault r => .fault r
    | .refused r => .refused r

/-- The environment's next actions are the ticks `ins`, none of them with reset. -/
abbrev TicksAhead (ins : List TickInput) (s : State) : Prop :=
  (∀ inp ∈ ins, inp.rst = false) ∧ ∃ more, s.env = ins.map EnvAction.tick ++ more

/-- The samples `a` of a list of ticks (R16). -/
def samplesOf (c : Config.Params) (ins : List TickInput) : List Bool :=
  ins.map (sampleOf c)

/-- The line during a frame: `g0` inactive samples, the start pulse of `w0`, then for each pair a gap and a data pulse, then
`silence` inactive samples (the run-length view of R114). -/
def frameWave (g0 w0 : Nat) (pulses : List (Nat × Nat)) (silence : Nat) : List Bool :=
  List.replicate g0 false ++ List.replicate w0 true ++
    pulses.flatMap (fun gw => List.replicate gw.1 false ++ List.replicate gw.2 true) ++ List.replicate silence false

/-- The two states hold the same packet and outcome: every register of groups P and X of R20, `st`, `counter`, `ovf`. -/
structure SamePacket (s t : State) : Prop where
  header : s.header = t.header
  payload : s.payload = t.payload
  parityBit : s.parityBit = t.parityBit
  bitCount : s.bitCount = t.bitCount
  sent : s.sent = t.sent
  incomplete : s.incomplete = t.incomplete
  cause : s.cause = t.cause
  st : s.st = t.st
  counter : s.counter = t.counter
  ovf : s.ovf = t.ovf

/-- No register of R20 differs: the states differ at most in the environment's list, the tick count and the host's value. -/
abbrev SameRegisters (s t : State) : Prop :=
  t = { s with env := t.env, tick := t.tick, result := t.result }

/-- The step of the machine at a state is a tick with these inputs. -/
abbrev TickIs (inp : TickInput) (s : State) : Prop :=
  actionOf s = .tick inp

end Sys2Proof.Machine
end

