-- ==== Sys2Proof/Certificates/Slice0/Obligations.lean ====
section
/-! DEFINITION. The statements for the provers. A step or an operation is described by the register writes the cited rule
gives it; a record update `{ s with … }` says that every other field is unchanged. -/

open Sys2Proof Sys2Proof.Machine

/-! ### Reset, totality, selection -/

/-- R41: after reset every register of R20 is zero and `st` is `IDLE`. -/
def Obligations.ResetStateHasEveryRegisterZero : Prop :=
  State.reset.header = 0 ∧ State.reset.payload = 0 ∧ State.reset.parityBit = false ∧ State.reset.bitCount = 0 ∧
  State.reset.sent = false ∧ State.reset.incomplete = false ∧ State.reset.cause = 0 ∧ stCode State.reset.st = 0 ∧
  State.reset.counter = 0 ∧ State.reset.wcnt = 0 ∧ State.reset.gcnt = 0 ∧ State.reset.ovf = false ∧
  State.reset.txidx = 0 ∧ State.reset.tcnt = 0 ∧ State.reset.icnt = 0 ∧ State.reset.bcnt = 0 ∧
  State.reset.lineOutR = false

/-- R260: a tick with `rst = 1`, in any state and with any other inputs, puts every register at its reset value. The fields
`cfg`, `env`, `tick` and `result` are the model's own and not registers (log 1, 2, 3). -/
def Obligations.ResetTickClearsEveryRegister : Prop :=
  ∀ (s : State) (inp : TickInput), TickIs inp s → inp.rst = true →
    step s = .next { State.reset with cfg := s.cfg, env := s.env.tail, tick := s.tick + 1, result := s.result }

/-- R111: every state and every input has a next state; no step faults or is refused. -/
def Obligations.StepAlwaysAnswersNext : Prop :=
  ∀ s : State, ∃ t : State, step s = .next t

/-- The step runs the operation that the tick's selector, or the port the host looks at, decodes to, and then passes the
tick (or the look, which takes none); it stops where the operation stops. The list `env`, the count `tick` and looks without
a tick are the model's (log 2, 3). -/
def Obligations.StepRunsTheSelectedOperation : Prop :=
  ∀ (s : State) (i : Instr),
    (∀ inp : TickInput, TickIs inp s → inp.rst = false → decode (tickSelector inp s) = .ok i →
      step s = match exec i s with
        | .next t => .next { t with env := t.env.tail, tick := t.tick + 1 }
        | .fault r => .fault r
        | .refused r => .refused r) ∧
    (∀ p : Port, actionOf s = .look p → decode (.port p) = .ok i →
      step s = match exec i s with
        | .next t => .next { t with env := t.env.tail }
        | .fault r => .fault r
        | .refused r => .refused r)

/-- R104, R109: inside a pulse a further active sample only counts the width, saturating. Here and below, `env` and `tick`
moving on is the model's way of saying that one tick has passed (log 2). -/
def Obligations.ActiveSampleInPulseCountsWidth : Prop :=
  ∀ (s : State) (inp : TickInput), TickIs inp s → inp.rst = false → s.st = .startPulse ∨ s.st = .pulse →
    sampleOf s.cfg inp = true →
    step s = .next { s with wcnt := min (s.wcnt + 1) s.cfg.wcntMax, env := s.env.tail, tick := s.tick + 1 }

/-- Words written out from the tables of R84, R28 and R88. -/
def Obligations.TableWordsDecodeToTheirRows : Prop :=
  decode (.command 0b001 0) = .ok .read ∧ decode (.command 0b010 0x0000AA15) = .ok (.set 0x0000AA15) ∧
  decode (.command 0b100 0x0000AA15) = .ok (.setsend 0x0000AA15) ∧ decode (.command 0b110 0) = .ok .nop ∧
  decode (.lineEvent 0b00011 false) = .ok .start ∧ decode (.lineEvent 0b00110 true) = .ok .eof ∧
  decode (.lineEvent 0b01000 true) = .ok .sym1 ∧ decode (.lineEvent 0b01101 true) = .ok .txAbort ∧
  decode (.lineEvent 0b01111 false) = .ok (.sendbit .active) ∧
  decode (.pulses ([true] ++ [true, false] ++ [true, false, true, false, false, false] ++ [false, true] ++ [true])) =
    .ok (.frame 1 5 [false, true] true)

/-- Decode and encode agree on every operation that has an encoding, with every operand; exactly the internal operations and
the ErrorCheck cases, for which the table carries `null`, have none (log 5). -/
def Obligations.DecodeInvertsEncode : Prop :=
  (∀ (i : Instr) (w : Selector), i.wellFormed = true → encode i = some w → decode w = .ok i) ∧
  ∀ i : Instr, encode i = none ↔
    (∃ b, i = .shiftIn b) ∨ i = .finalize ∨ i = .runt ∨ i = .overrun ∨ i = .calcParity ∨
    i = .ecOk ∨ i = .ecZero ∨ i = .ecPar ∨ i = .ecOdd ∨ i = .ecOddFix ∨ i = .ecOddChain

/-- The invariant holds after reset (for the configuration the model's reset state carries: log 1). -/
def Obligations.InvariantHoldsAfterReset : Prop :=
  Inv State.reset

/-- Every step keeps the invariant: register ranges, a clean reception, whole bit pairs with nothing above the run, the
line driven in `TX_ACTIVE` only, `cause` 0 while a packet is received or sent, `IDLE` only as after reset. -/
def Obligations.StepKeepsInvariant : Prop :=
  ∀ s t : State, Inv s → step s = .next t → Inv t

/-! ### Host commands -/

/-- R112, R86: without a command, with `NOP` or a reserved code, a tick in `IDLE` or `DONE` changes no register. -/
def Obligations.NopLeavesEveryRegister : Prop :=
  (∀ s : State, exec .nop s = .next s) ∧
  ∀ (s : State) (inp : TickInput), TickIs inp s → inp.rst = false → s.st = .idle ∨ s.st = .done →
    (inp.cmdValid = false ∨ inp.cmd = 0 ∨ inp.cmd = 5 ∨ inp.cmd = 6 ∨ inp.cmd = 7) →
    decode (tickSelector inp s) = .ok .nop ∧ step s = .next { s with env := s.env.tail, tick := s.tick + 1 }

/-- R101: `READ`, accepted, arms the receiver with every packet register cleared. -/
def Obligations.ReadArmsTheReceiver : Prop :=
  ∀ s : State, s.st = .idle ∨ s.st = .done →
    (∀ inp : TickInput, inp.cmdValid = true → inp.cmd = 1 → decode (tickSelector inp s) = .ok .read) ∧
    exec .read s = .next { s with
      header := 0, payload := 0, parityBit := false, bitCount := 0, sent := false, incomplete := false, cause := 0
      counter := 0, wcnt := 0, gcnt := 0, ovf := false, st := .awaitStart }

/-- R39: in a busy state no command is accepted: the tick runs as if none were offered. That a command
executed there has no effect is the model's (log 9). -/
def Obligations.BusyStateIgnoresCommands : Prop :=
  ∀ s : State, s.st ≠ .idle → s.st ≠ .done →
    (∀ (inp : TickInput) (cmd : CmdCode) (arg : UniqueWord),
      tickStep { inp with cmdValid := true, cmd := cmd, arg := arg } s = tickStep { inp with cmdValid := false } s) ∧
    exec .read s = .next s ∧ exec .send s = .next s ∧
    ∀ arg : UniqueWord, exec (.set arg) s = .next s ∧ exec (.setsend arg) s = .next s

/-- R201: `SET`, accepted, loads header, payload, the minimal length and the parity. -/
def Obligations.SetLoadsThePacket : Prop :=
  ∀ (s : State) (arg : UniqueWord), s.st = .idle ∨ s.st = .done →
    (∀ inp : TickInput, inp.cmdValid = true → inp.cmd = 2 → inp.arg = arg →
      decode (tickSelector inp s) = .ok (.set arg)) ∧
    ∃ t : State,
      exec (.set arg) s = .next { s with
        header := arg.setWidth 8, payload := arg >>> 8, bitCount := minEvenBits (argPayload arg)
        parityBit := calcParity t, sent := false, incomplete := false, cause := 0
        counter := 0, wcnt := 0, gcnt := 0, ovf := false, st := .done } ∧
      t.header = arg.setWidth 8 ∧ t.payload = arg >>> 8 ∧ t.bitCount = minEvenBits (argPayload arg)

/-- R204: what holds after `SET` for every operand. -/
def Obligations.SetPacketIsWellFormed : Prop :=
  ∀ (s t : State) (arg : UniqueWord), s.st = .idle ∨ s.st = .done → exec (.set arg) s = .next t →
    t.bitCount.toNat % 2 = 0 ∧ 2 ≤ t.bitCount.toNat ∧ t.bitCount.toNat ≤ 24 ∧
    (∀ n : Nat, n % 2 = 0 → 2 ≤ n → t.payload.toNat < 2 ^ n → t.bitCount.toNat ≤ n) ∧
    t.payload.toNat < 2 ^ t.bitCount.toNat ∧ calcParity t = t.parityBit ∧ uniqueOf t.header t.payload = arg ∧
    t.sent = false ∧ t.incomplete = false

/-- R202: `MinEvenBits(v)` is the least even `n >= 2` with `v >> n = 0`. -/
def Obligations.MinEvenBitsIsLeast : Prop :=
  ∀ v : BitVec 24,
    (minEvenBits v).toNat % 2 = 0 ∧ 2 ≤ (minEvenBits v).toNat ∧ (minEvenBits v).toNat ≤ 24 ∧
    v >>> (minEvenBits v).toNat = 0 ∧
    ∀ n : Nat, n % 2 = 0 → 2 ≤ n → v >>> n = 0 → (minEvenBits v).toNat ≤ n

/-- R207: `SEND`, accepted, is skipped without a transmitter or with an empty packet, else it begins the idle wait and
clears `cause` and the transmit counters. `line_out_r <- 0` is R34's (log 10). -/
def Obligations.SendBeginsOrIsSkipped : Prop :=
  ∀ s : State, s.st = .idle ∨ s.st = .done →
    (∀ inp : TickInput, inp.cmdValid = true → inp.cmd = 3 → decode (tickSelector inp s) = .ok .send) ∧
    (s.cfg.hasTx = false ∨ s.bitCount = 0 → exec .send s = .next { s with cause := 5, st := .done }) ∧
    (s.cfg.hasTx = true → s.bitCount ≠ 0 →
      exec .send s = .next { s with
        cause := 0, icnt := 0, bcnt := 0, txidx := 0, tcnt := 0, lineOutR := false, st := .txWait })

/-- R214: `SETSEND arg` does what `SET arg` followed by `SEND` does. `line_out_r <- 0` is R34's (log 10). -/
def Obligations.SetsendIsSetThenSend : Prop :=
  ∀ (s : State) (arg : UniqueWord), s.st = .idle ∨ s.st = .done →
    (∀ inp : TickInput, inp.cmdValid = true → inp.cmd = 4 → inp.arg = arg →
      decode (tickSelector inp s) = .ok (.setsend arg)) ∧
    ∃ t u : State, exec (.set arg) s = .next t ∧ exec .send t = .next u ∧ exec (.setsend arg) s = .next u ∧
      (s.cfg.hasTx = false → u = { t with cause := 5, st := .done }) ∧
      (s.cfg.hasTx = true → u = { t with
        cause := 0, icnt := 0, bcnt := 0, txidx := 0, tcnt := 0, lineOutR := false, st := .txWait })

/-! ### Wire events -/

/-- R102: the first active sample after `READ` is the start condition. -/
def Obligations.FirstActiveSampleStartsTheFrame : Prop :=
  ∀ s : State,
    (∀ inp : TickInput, s.st = .awaitStart → sampleOf s.cfg inp = true → decode (tickSelector inp s) = .ok .start) ∧
    exec .start s = .next { s with wcnt := 1, st := .startPulse }

/-- R103: an inactive sample before the start is counted; the `MAXLOOPS`-th ends the command with `START_TIMEOUT`.
That the row `START_TIMEOUT`, executed where its condition fails, counts only is the model's (log 9). -/
def Obligations.StartTimeoutAtMaxloops : Prop :=
  ∀ s : State,
    (∀ inp : TickInput, s.st = .awaitStart → sampleOf s.cfg inp = false → s.gcnt + 1 = s.cfg.maxLoops →
      decode (tickSelector inp s) = .ok .startTimeout) ∧
    (s.gcnt + 1 = s.cfg.maxLoops →
      exec .startTimeout s = .next { s with gcnt := s.gcnt + 1, cause := 1, st := .done }) ∧
    (s.gcnt + 1 ≠ s.cfg.maxLoops → exec .startTimeout s = .next { s with gcnt := s.gcnt + 1 }) ∧
    (∀ inp : TickInput, TickIs inp s → inp.rst = false → s.st = .awaitStart → sampleOf s.cfg inp = false →
      s.gcnt + 1 ≠ s.cfg.maxLoops →
      step s = .next { s with gcnt := s.gcnt + 1, env := s.env.tail, tick := s.tick + 1 })

/-- R105, R106: the start pulse is consumed, and an active sample in a gap begins a data pulse. -/
def Obligations.GapBeginsAndEndsAtASample : Prop :=
  ∀ s : State,
    (∀ inp : TickInput, s.st = .startPulse → sampleOf s.cfg inp = false →
      decode (tickSelector inp s) = .ok .startEnd) ∧
    exec .startEnd s = .next { s with gcnt := 1, st := .gap } ∧
    (∀ inp : TickInput, s.st = .gap → sampleOf s.cfg inp = true → decode (tickSelector inp s) = .ok .pulseBegin) ∧
    exec .pulseBegin s = .next { s with wcnt := 1, st := .pulse }

/-- R110, R108: the end of a data pulse stores its bit, 1 exactly at or above `THRESH_TICKS`, and begins the gap. -/
def Obligations.PulseEndStoresTheClassifiedBit : Prop :=
  ∀ s : State,
    (∀ inp : TickInput, s.st = .pulse → sampleOf s.cfg inp = false →
      (s.wcnt < s.cfg.threshTicks → decode (tickSelector inp s) = .ok .sym0) ∧
      (s.cfg.threshTicks ≤ s.wcnt → decode (tickSelector inp s) = .ok .sym1)) ∧
    ∃ t u : State, exec (.shiftIn false) s = .next t ∧ exec .sym0 s = .next { t with gcnt := 1, st := .gap } ∧
      exec (.shiftIn true) s = .next u ∧ exec .sym1 s = .next { u with gcnt := 1, st := .gap }

/-- R107, R133: the `MAXLOOPS`-th silent sample ends the frame; an overflow is told first, then a runt, else the frame is
finalised and checked. That the row `EOF`, executed where its condition fails, counts only is the model's (log 9). -/
def Obligations.EndOfFrameAtMaxloops : Prop :=
  ∀ s c : State, c = { s with gcnt := s.gcnt + 1 } →
    (s.gcnt + 1 ≠ s.cfg.maxLoops → exec .eof s = .next c ∧
      ∀ inp : TickInput, TickIs inp s → inp.rst = false → s.st = .gap → sampleOf s.cfg inp = false →
        step s = .next { c with env := s.env.tail, tick := s.tick + 1 }) ∧
    (s.gcnt + 1 = s.cfg.maxLoops →
      (∀ inp : TickInput, s.st = .gap → sampleOf s.cfg inp = false → decode (tickSelector inp s) = .ok .eof) ∧
      (s.ovf = true → exec .eof s = .next { c with cause := 3, st := .done }) ∧
      (s.ovf = false → s.counter.toNat < 9 → exec .eof s = .next { c with cause := 2, st := .done }) ∧
      (s.ovf = false → 9 ≤ s.counter.toNat → ∃ f : State, exec .finalize c = .next f ∧
        exec .eof s = .next { errorCheck f with sent := true, st := .done }))

/-! ### Frame assembler -/

/-- R131: `SHIFT_IN` writes one bit at the position `counter` names, or sets `ovf` once `FRAME_MAX` bits are stored. -/
def Obligations.ShiftInStoresOneBit : Prop :=
  ∀ (s : State) (b : Bool),
    (s.counter.toNat < 8 → ∃ h : Header, exec (.shiftIn b) s = .next { s with header := h, counter := s.counter + 1 } ∧
      ∀ j < 8, h.getLsbD j = if j = s.counter.toNat then b else s.header.getLsbD j) ∧
    (8 ≤ s.counter.toNat → s.counter.toNat < 38 →
      ∃ p : Payload, exec (.shiftIn b) s = .next { s with payload := p, counter := s.counter + 1 } ∧
        ∀ j < 32, p.getLsbD j = if j = s.counter.toNat - 8 then b else s.payload.getLsbD j) ∧
    (38 ≤ s.counter.toNat → exec (.shiftIn b) s = .next { s with ovf := true })

/-- R134: `FINALIZE` takes the last stored bit off as the parity bit and fixes the length. -/
def Obligations.FinalizeTakesTheParityBitOff : Prop :=
  ∀ s : State, 9 ≤ s.counter.toNat → s.counter.toNat ≤ 38 →
    ∃ (p : Payload) (n : Count6),
      exec .finalize s = .next { s with
        parityBit := s.payload.getLsbD (s.counter.toNat - 9), payload := p, bitCount := n } ∧
      n.toNat = s.counter.toNat - 9 ∧
      (∀ j < 32, p.getLsbD j = if j = s.counter.toNat - 9 then false else s.payload.getLsbD j) ∧
      (ClearFrom s.payload (s.counter.toNat - 8) → ClearFrom p n.toNat)

/-- R135, R136: the internal outcomes raise their cause, which by R15 is `cause <- code; st <- DONE` and nothing else. -/
def Obligations.RuntAndOverrunWriteOnlyCauseAndSt : Prop :=
  ∀ s : State,
    exec .runt s = .next { s with cause := 2, st := .done } ∧ exec .overrun s = .next { s with cause := 3, st := .done }

/-- The model's own stops (log 7, log 8): `FINALIZE` below 9 data bits and a symbol of width 0 have no meaning. -/
def Obligations.MeaninglessOperandsFault : Prop :=
  (∀ s : State, s.counter.toNat < 9 → exec .finalize s = .fault .finalizeBelowNine) ∧
  ∀ s : State, exec (.symbol 0) s = .fault .emptyPulse

/-- R138, R79: shifting in the data bits of a frame from the state of `READ` and finalising assembles the packet. -/
def Obligations.AssemblyPlacesEveryBit : Prop :=
  ∀ (s t : State) (bits : List Bool), 9 ≤ bits.length → bits.length ≤ 38 →
    exec .finalize (bits.foldl (fun u b => shiftIn b u) (initPacket s)) = .next t →
    (∀ k < 8, t.header.getLsbD k = bits.getD k false) ∧
    (∀ k < 32, t.payload.getLsbD k = (decide (k + 9 < bits.length) && bits.getD (k + 8) false)) ∧
    t.bitCount.toNat = bits.length - 9 ∧ t.parityBit = bits.getD (bits.length - 1) false

/-- R139: assembling the pulses a packet is sent as, without the start pulse, gives the packet back. -/
def Obligations.AssemblyInvertsTxBits : Prop :=
  ∀ s t u : State, s.bitCount.toNat % 2 = 0 → 2 ≤ s.bitCount.toNat → s.bitCount.toNat ≤ 24 →
    s.payload.toNat < 2 ^ s.bitCount.toNat →
    exec .finalize ((txBits s).tail.foldl (fun v b => shiftIn b v) (initPacket t)) = .next u →
    u.header = s.header ∧ u.payload = s.payload ∧ u.bitCount = s.bitCount ∧ u.parityBit = s.parityBit

/-! ### Parity and ErrorCheck -/

/-- R150: the parity is 1 exactly when the number of ones among the 8 header bits and the `bitCount` payload bits is odd;
no register is written. Where the value goes is the model's (log 3). -/
def Obligations.CalcParityCountsOnes : Prop :=
  ∀ s : State,
    (calcParity s = true ↔
      ((List.range 8).countP (fun j => s.header.getLsbD j) +
        (List.range s.bitCount.toNat).countP (fun j => s.payload.getLsbD j)) % 2 = 1) ∧
    exec .calcParity s = .next { s with result := if calcParity s then 1 else 0 }

/-- R152: the transfer copies the low header bits above the run in order, shifts the header, lengthens the run, and changes
the parity by the bits lost and the bits doubled. -/
def Obligations.TransferCopiesThenShifts : Prop :=
  ∀ (s : State) (k : Nat), k = 1 ∨ k = 2 → s.bitCount.toNat + k ≤ 32 →
    ∃ p : Payload, xfer k s = { s with
        payload := p, header := s.header <<< k, bitCount := s.bitCount + BitVec.ofNat 6 k, incomplete := true } ∧
      (∀ j < 32, p.getLsbD j =
        if s.bitCount.toNat ≤ j ∧ j < s.bitCount.toNat + k then s.header.getLsbD (j - s.bitCount.toNat)
        else s.payload.getLsbD j) ∧
      calcParity (xfer k s) = (calcParity s ^^ (List.range k).foldl (fun x j => x ^^ s.header.getLsbD (7 - j)) false ^^
        (List.range k).foldl (fun x j => x ^^ s.header.getLsbD j) false)

/-- R153: an even length, a header that is not zero and a parity that agrees: the frame is accepted unmodified. -/
def Obligations.AgreeingFrameIsAcceptedUnmodified : Prop :=
  (∀ s : State, exec .ecOk s = .next s) ∧
  ∀ s : State, s.bitCount.toNat % 2 = 0 → s.header ≠ 0 → calcParity s = s.parityBit → errorCheck s = s

/-- R154: an even length and a zero header: header `0x03`, two more payload bits, `incomplete`, whatever the parity. -/
def Obligations.ZeroHeaderIsAlwaysRepaired : Prop :=
  ∀ s : State, s.header = 0 → s.bitCount.toNat + 2 ≤ 32 → ClearFrom s.payload s.bitCount.toNat →
    exec .ecZero s = .next { s with header := 3, bitCount := s.bitCount + 2, incomplete := true } ∧
    (s.bitCount.toNat % 2 = 0 →
      errorCheck s = { s with header := 3, bitCount := s.bitCount + 2, incomplete := true }) ∧
    calcParity { s with header := 3, bitCount := s.bitCount + 2, incomplete := true } = calcParity s

/-- R155: an even length, a header that is not zero and a parity that disagrees: two bits transferred, low bits `01`; the
parity then agrees exactly when the two top and two low bits of the old header have even parity. -/
def Obligations.ParityMismatchTransfersTwoBits : Prop :=
  ∀ s t : State, s.bitCount.toNat + 2 ≤ 32 → ClearFrom s.payload s.bitCount.toNat →
    t = { s with
      header := s.header <<< 2 ||| 1
      payload := s.payload ||| (s.header &&& 3).setWidth 32 <<< s.bitCount.toNat
      bitCount := s.bitCount + 2, incomplete := true } →
    exec .ecPar s = .next t ∧
    (s.bitCount.toNat % 2 = 0 → s.header ≠ 0 → calcParity s ≠ s.parityBit → errorCheck s = t) ∧
    (calcParity s ≠ s.parityBit → (calcParity t = t.parityBit ↔
      (s.header.getLsbD 7 ^^ s.header.getLsbD 6 ^^ s.header.getLsbD 1 ^^ s.header.getLsbD 0) = false))

/-- R156, R157, R158: an odd length transfers one bit, which changes the parity by the old `header[7]` and `header[0]`; if
the parity then disagrees the low header bit becomes 1 and the parity agrees, else the even case runs once on the shifted
packet, which by the spec's inference in R158 is `EC_ZERO` or `EC_OK` (log 9 unrolls the recursion). -/
def Obligations.OddLengthTransfersOneBit : Prop :=
  ∀ s t : State, s.bitCount.toNat + 1 ≤ 32 → ClearFrom s.payload s.bitCount.toNat →
    t = { s with
      header := s.header <<< 1
      payload := s.payload ||| (s.header &&& 1).setWidth 32 <<< s.bitCount.toNat
      bitCount := s.bitCount + 1, incomplete := true } →
    calcParity t = (calcParity s ^^ s.header.getLsbD 7 ^^ s.header.getLsbD 0) ∧
    (calcParity t ≠ s.parityBit → exec .ecOdd s = exec .ecOddFix t ∧
      exec .ecOddFix t = .next { t with header := t.header + 1 } ∧
      calcParity { t with header := t.header + 1 } = s.parityBit) ∧
    (calcParity t = s.parityBit → exec .ecOdd s = exec .ecOddChain t ∧
      (t.header ≠ 0 → exec .ecOddChain t = exec .ecOk t) ∧ (t.header = 0 → exec .ecOddChain t = exec .ecZero t)) ∧
    (s.bitCount.toNat % 2 = 1 → exec .ecOdd s = .next (errorCheck s))

/-- The entry, the fix and the chain of the odd case complete in every state, not only on the packets that reach them (R156 to
R158; log 9). -/
def Obligations.OddCaseOperationsComplete : Prop :=
  ∀ s : State,
    exec .ecOddFix s = .next { s with header := s.header + 1 } ∧
    (∃ t : State, exec .ecOdd s = .next t ∧ t = { s with
      header := t.header, payload := t.payload, bitCount := t.bitCount, incomplete := true }) ∧
    ∃ t : State, exec .ecOddChain s = .next t ∧ t = { s with
      header := t.header, payload := t.payload, bitCount := t.bitCount, incomplete := t.incomplete } ∧
      (s.header = 0 → exec .ecZero s = .next t) ∧
      (s.header ≠ 0 → calcParity s ≠ s.parityBit → exec .ecPar s = .next t) ∧
      (s.header ≠ 0 → calcParity s = s.parityBit → exec .ecOk s = .next t)

/-- R160: the six paths of ErrorCheck, each with its whole effect; `p1` is the parity after the one-bit transfer. -/
def Obligations.ErrorCheckTakesOneOfSixPaths : Prop :=
  ∀ (s : State) (p1 : Bool), s.bitCount.toNat ≤ 29 → ClearFrom s.payload s.bitCount.toNat →
    p1 = (calcParity s ^^ s.header.getLsbD 7 ^^ s.header.getLsbD 0) →
    (s.bitCount.toNat % 2 = 0 → s.header ≠ 0 → calcParity s = s.parityBit → errorCheck s = s) ∧
    (s.bitCount.toNat % 2 = 0 → s.header = 0 →
      errorCheck s = { s with header := 3, bitCount := s.bitCount + 2, incomplete := true }) ∧
    (s.bitCount.toNat % 2 = 0 → s.header ≠ 0 → calcParity s ≠ s.parityBit →
      errorCheck s = { s with
        header := s.header <<< 2 ||| 1
        payload := s.payload ||| (s.header &&& 3).setWidth 32 <<< s.bitCount.toNat
        bitCount := s.bitCount + 2, incomplete := true }) ∧
    (s.bitCount.toNat % 2 = 1 → p1 ≠ s.parityBit →
      errorCheck s = { s with
        header := s.header <<< 1 ||| 1
        payload := s.payload ||| (s.header &&& 1).setWidth 32 <<< s.bitCount.toNat
        bitCount := s.bitCount + 1, incomplete := true }) ∧
    (s.bitCount.toNat % 2 = 1 → p1 = s.parityBit → s.header <<< 1 ≠ 0 →
      errorCheck s = { s with
        header := s.header <<< 1
        payload := s.payload ||| (s.header &&& 1).setWidth 32 <<< s.bitCount.toNat
        bitCount := s.bitCount + 1, incomplete := true }) ∧
    (s.bitCount.toNat % 2 = 1 → p1 = s.parityBit → s.header <<< 1 = 0 →
      errorCheck s = { s with header := 3, bitCount := s.bitCount + 3, incomplete := true })

/-- R161: on every path `bitCount` is even when ErrorCheck ends. -/
def Obligations.ErrorCheckEndsWithEvenBitCount : Prop :=
  ∀ s : State, (errorCheck s).bitCount.toNat % 2 = 0

/-- R162: after ErrorCheck the parity agrees but in exactly two situations: a zero header whose parity disagreed, and the
mismatch path when `h[7] XOR h[6] XOR h[1] XOR h[0] = 1`. -/
def Obligations.ParityFailsInExactlyTwoSituations : Prop :=
  ∀ s : State, s.bitCount.toNat ≤ 29 → ClearFrom s.payload s.bitCount.toNat →
    (calcParity (errorCheck s) ≠ (errorCheck s).parityBit ↔
      s.bitCount.toNat % 2 = 0 ∧ calcParity s ≠ s.parityBit ∧
        (s.header = 0 ∨
          (s.header.getLsbD 7 ^^ s.header.getLsbD 6 ^^ s.header.getLsbD 1 ^^ s.header.getLsbD 0) = true))

/-! ### Accessors, ports -/

/-- R180 to R186: the value of each accessor, handed out with no register changed (R57). Where the value goes is the model's
(log 3). -/
def Obligations.AccessorsHandOutTheirValue : Prop :=
  ∀ s : State,
    exec .priority s = .next { s with result := BitVec.ofNat 32 (s.header.toNat % 4) } ∧
    exec .address s = .next { s with result := BitVec.ofNat 32 (s.header.toNat / 4) } ∧
    (∀ sel : BitVec 2, exec (.byte sel) s = .next { s with
      result := BitVec.ofNat 32 (s.payload.toNat / 2 ^ (8 * sel.toNat) % 256) }) ∧
    (∀ first last : BitVec 5, exec (.bitrange first last) s = .next { s with
      result := if first.toNat ≤ last.toNat then
          BitVec.ofNat 32 (s.payload.toNat / 2 ^ first.toNat % 2 ^ (last.toNat - first.toNat + 1))
        else 0 }) ∧
    exec .unique s = .next { s with result := BitVec.ofNat 32 (s.header.toNat + s.payload.toNat * 256) } ∧
    exec .sent s = .next { s with result := if s.sent then 1 else 0 } ∧
    exec .incomplete s = .next { s with result := if s.incomplete then 1 else 0 }

/-- R57: a look at a port changes no register. That it is a step of its own and takes no tick is the model's (log 3). -/
def Obligations.LookChangesNoRegister : Prop :=
  ∀ (s : State) (p : Port), actionOf s = .look p →
    step s = .next { s with result := portValue p s, env := s.env.tail }

/-- R184: the Unique word round-trips through `SET`, both ways. -/
def Obligations.UniqueRoundTripsThroughSet : Prop :=
  (∀ (s t u : State) (arg : UniqueWord), s.st = .idle ∨ s.st = .done → exec (.set arg) s = .next t →
    exec .unique t = .next u → u.result = arg) ∧
  ∀ s t : State, s.st = .idle ∨ s.st = .done → s.payload.toNat < 2 ^ 24 →
    exec (.set (uniqueOf s.header s.payload)) s = .next t → t.header = s.header ∧ t.payload = s.payload

/-- R38, R33: the fields of the status word. -/
def Obligations.StatusWordShowsItsFields : Prop :=
  ∀ s : State,
    (statusWord s).getLsbD 0 = s.sent ∧ (statusWord s).getLsbD 1 = s.incomplete ∧
    (statusWord s).getLsbD 2 = s.parityBit ∧
    ((statusWord s).getLsbD 3 = true ↔ s.st ≠ .idle ∧ s.st ≠ .done) ∧
    ((statusWord s).getLsbD 4 = true ↔ s.st = .done) ∧
    (statusWord s).extractLsb' 5 3 = s.cause ∧ (statusWord s).extractLsb' 8 6 = s.bitCount ∧
    (statusWord s).extractLsb' 14 2 = 0

/-- R34, R33, R180 to R187: every output port of R40. That `line_out` has no value with `HAS_TX = 0` is log 15. -/
def Obligations.PortsShowTheRegisters : Prop :=
  ∀ (s : State) (inp : TickInput),
    (s.cfg.hasTx = false → (portsOf inp s).lineOut = none) ∧
    (s.cfg.hasTx = true → s.lineOutR = true → (portsOf inp s).lineOut = some s.cfg.activeLevel) ∧
    (s.cfg.hasTx = true → s.lineOutR = false → (portsOf inp s).lineOut = some (!s.cfg.activeLevel)) ∧
    (portsOf inp s).headerO = s.header ∧ (portsOf inp s).payloadO = s.payload ∧
    (portsOf inp s).bitCount = s.bitCount ∧ (portsOf inp s).parityBit = s.parityBit ∧
    (portsOf inp s).cause = s.cause ∧ (portsOf inp s).dbgSt = stCode s.st ∧
    (portsOf inp s).dbgCounter = s.counter ∧ (portsOf inp s).status = statusWord s ∧
    ((portsOf inp s).busy = true ↔ s.st ≠ .idle ∧ s.st ≠ .done) ∧ ((portsOf inp s).done = true ↔ s.st = .done) ∧
    (portsOf inp s).sent = s.sent ∧ (portsOf inp s).incomplete = s.incomplete ∧
    (portsOf inp s).priority.toNat = s.header.toNat % 4 ∧ (portsOf inp s).address.toNat = s.header.toNat / 4 ∧
    (portsOf inp s).byteO.toNat = s.payload.toNat / 2 ^ (8 * inp.byteSel.toNat) % 256 ∧
    (portsOf inp s).bitrangeO.toNat = (if inp.brFirst.toNat ≤ inp.brLast.toNat then
        s.payload.toNat / 2 ^ inp.brFirst.toNat % 2 ^ (inp.brLast.toNat - inp.brFirst.toNat + 1)
      else 0) ∧
    (portsOf inp s).uniqueO.toNat = (s.header.toNat + s.payload.toNat * 256) % 2 ^ 32

/-! ### Transmitter -/

/-- R209: an idle sample restarts the busy count; the `WAITLOOPS`-th consecutive one begins the start pulse.
That the row `TX_IDLE_OK`, executed where its condition fails, counts only is the model's (log 9). -/
def Obligations.IdleSamplesLeadToTheStartPulse : Prop :=
  ∀ s : State,
    (∀ inp : TickInput, s.st = .txWait → sampleOf s.cfg inp = false → s.icnt + 1 = s.cfg.waitLoops →
      decode (tickSelector inp s) = .ok .txIdleOk) ∧
    (s.icnt + 1 = s.cfg.waitLoops → exec .txIdleOk s = .next { s with
      bcnt := 0, icnt := s.icnt + 1, txidx := 0, tcnt := 0, lineOutR := true, st := .txActive }) ∧
    (s.icnt + 1 ≠ s.cfg.waitLoops → exec .txIdleOk s = .next { s with bcnt := 0, icnt := s.icnt + 1 }) ∧
    (∀ inp : TickInput, TickIs inp s → inp.rst = false → s.st = .txWait → sampleOf s.cfg inp = false →
      s.icnt + 1 ≠ s.cfg.waitLoops →
      step s = .next { s with bcnt := 0, icnt := s.icnt + 1, env := s.env.tail, tick := s.tick + 1 })

/-- R208: a busy sample restarts the idle count; the `MAXLOOPS`-th consecutive one ends the command with `SEND_ABORT`.
That the row `TX_ABORT`, executed where its condition fails, counts only is the model's (log 9). -/
def Obligations.BusySamplesLeadToTheAbort : Prop :=
  ∀ s : State,
    (∀ inp : TickInput, s.st = .txWait → sampleOf s.cfg inp = true → s.bcnt + 1 = s.cfg.maxLoops →
      decode (tickSelector inp s) = .ok .txAbort) ∧
    (s.bcnt + 1 = s.cfg.maxLoops → exec .txAbort s = .next { s with
      icnt := 0, bcnt := s.bcnt + 1, cause := 4, st := .done }) ∧
    (s.bcnt + 1 ≠ s.cfg.maxLoops → exec .txAbort s = .next { s with icnt := 0, bcnt := s.bcnt + 1 }) ∧
    (∀ inp : TickInput, TickIs inp s → inp.rst = false → s.st = .txWait → sampleOf s.cfg inp = true →
      s.bcnt + 1 ≠ s.cfg.maxLoops →
      step s = .next { s with icnt := 0, bcnt := s.bcnt + 1, env := s.env.tail, tick := s.tick + 1 })

/-- R210, R211, R212: the two parts of a slot, the next slot, and the end of the transmission. `TX_END` on its
own makes the `tcnt` increment of its tick too (log 9). -/
def Obligations.SlotRunsItsTwoParts : Prop :=
  ∀ (s : State) (inp : TickInput),
    (s.st = .txActive → decode (tickSelector inp s) = .ok (.sendbit .active)) ∧
    (s.tcnt + 1 = activeTicks s.cfg (txBit s s.txidx.toNat) →
      exec (.sendbit .active) s = .next { s with tcnt := s.tcnt + 1, lineOutR := false, st := .txRest }) ∧
    (s.tcnt + 1 ≠ activeTicks s.cfg (txBit s s.txidx.toNat) →
      exec (.sendbit .active) s = .next { s with tcnt := s.tcnt + 1 }) ∧
    (s.st = .txRest → ¬ (s.tcnt + 1 = s.cfg.slotTicks ∧ s.txidx.toNat = s.bitCount.toNat + 9) →
      decode (tickSelector inp s) = .ok (.sendbit .rest)) ∧
    (s.tcnt + 1 ≠ s.cfg.slotTicks → exec (.sendbit .rest) s = .next { s with tcnt := s.tcnt + 1 }) ∧
    (s.tcnt + 1 = s.cfg.slotTicks → s.txidx.toNat ≠ s.bitCount.toNat + 9 →
      exec (.sendbit .rest) s = .next { s with
        txidx := s.txidx + 1, tcnt := 0, lineOutR := true, st := .txActive }) ∧
    (s.tcnt + 1 = s.cfg.slotTicks → s.txidx.toNat = s.bitCount.toNat + 9 →
      exec (.sendbit .rest) s = .next { s with tcnt := s.tcnt + 1, sent := true, st := .done }) ∧
    (s.st = .txRest → s.tcnt + 1 = s.cfg.slotTicks → s.txidx.toNat = s.bitCount.toNat + 9 →
      decode (tickSelector inp s) = .ok .txEnd) ∧
    exec .txEnd s = .next { s with tcnt := s.tcnt + 1, sent := true, st := .done }

/-- R205, R206: the list of pulses of a packet: the start pulse, header, payload, and the stored parity bit. -/
def Obligations.TxBitsListsThePulses : Prop :=
  ∀ s : State, txBits s = [true] ++ (List.range 8).map (fun j => s.header.getLsbD j) ++
    (List.range s.bitCount.toNat).map (fun j => s.payload.getLsbD j) ++ [s.parityBit]

/-- R215, R212: from the tick after the idle wait, whatever the line and the host do, the line is driven for `T(b)` ticks of
each slot of `SLOT_TICKS` ticks, slot after slot, and after `(bitCount + 10) × SLOT_TICKS` ticks the packet is sent. -/
def Obligations.TransmissionDrivesTheWaveform : Prop :=
  ∀ (s : State) (ins : List TickInput), s.cfg.Valid → s.st = .txActive → s.txidx = 0 → s.tcnt = 0 →
    s.lineOutR = true → s.bitCount.toNat ≤ 32 → TicksAhead ins s →
    ins.length = (s.bitCount.toNat + 10) * s.cfg.slotTicks →
    (∀ k < ins.length, ∃ t : State, runSteps k s = .next t ∧ isBusy t = true ∧
      t.lineOutR = decide (k % s.cfg.slotTicks < activeTicks s.cfg (txBit s (k / s.cfg.slotTicks)))) ∧
    ∃ t : State, runSteps ins.length s = .next t ∧ t.st = .done ∧ t.sent = true ∧ t.lineOutR = false ∧
      t.header = s.header ∧ t.payload = s.payload ∧ t.bitCount = s.bitCount ∧ t.parityBit = s.parityBit ∧
      t.incomplete = s.incomplete ∧ t.cause = s.cause

/-! ### Formats -/

/-- R75, R115: a frame that fits is received as its assembled packet put through ErrorCheck; a longer one is `OVERRUN`
and keeps the first 38 data bits raw (R136).
That the row `FRAME` means `Decode` of its bits, and takes no tick, is the model's (log 6). -/
def Obligations.FrameIsReceivedWhole : Prop :=
  ∀ (s : State) (priority : BitVec 2) (address : BitVec 6) (payload : List Bool) (parity : Bool),
    (payload.length ≤ 29 → ∃ f : State,
      exec (.frame priority address payload parity) s = .next { errorCheck f with sent := true, st := .done } ∧
      f = { s with
        header := f.header, payload := f.payload, bitCount := BitVec.ofNat 6 payload.length, parityBit := parity
        sent := false, incomplete := false, cause := 0, counter := BitVec.ofNat 6 (payload.length + 9)
        wcnt := 0, gcnt := 0, ovf := false } ∧
      f.header.toNat = priority.toNat + 4 * address.toNat ∧
      ∀ k < 32, f.payload.getLsbD k = payload.getD k false) ∧
    (29 < payload.length → ∃ t : State, exec (.frame priority address payload parity) s = .next t ∧
      t.cause = 3 ∧ t.st = .done ∧ t.sent = false ∧ t.incomplete = false ∧ t.bitCount = 0 ∧ t.parityBit = false ∧
      t.counter.toNat = 38 ∧ t.ovf = true ∧ t.header.toNat = priority.toNat + 4 * address.toNat ∧
      ∀ k < 32, t.payload.getLsbD k = (decide (k < 30) && payload.getD k false))

/-- R70, R71: a symbol's value is 1 exactly at or above the threshold, and a transmitted bit's active width is read as that
bit. Where the value goes is the model's (log 3, 7). -/
def Obligations.SymbolValueIsDecidedByWidth : Prop :=
  (∀ (s : State) (w : Nat), 1 ≤ w → w < s.cfg.threshTicks → exec (.symbol w) s = .next { s with result := 0 }) ∧
  (∀ (s : State) (w : Nat), 1 ≤ w → s.cfg.threshTicks ≤ w → exec (.symbol w) s = .next { s with result := 1 }) ∧
  ∀ (s : State) (b : Bool), s.cfg.Valid →
    exec (.symbol (activeTicks s.cfg b)) s = .next { s with result := if b then 1 else 0 }

/-- R216: a packet loaded by `SET` with a header that is not zero is received unchanged from the pulses it is sent as. -/
def Obligations.LoopBackGivesThePacketBack : Prop :=
  ∀ (s t r u : State) (arg : UniqueWord), s.st = .idle ∨ s.st = .done → exec (.set arg) s = .next t → t.header ≠ 0 →
    decodeFrame (txBits t).tail r = u →
    u.header = t.header ∧ u.payload = t.payload ∧ u.bitCount = t.bitCount ∧ u.parityBit = t.parityBit ∧
    u.sent = true ∧ u.incomplete = false ∧ u.cause = 0 ∧ u.st = .done

/-! ### Runs -/

/-- R103, R119: after `READ`, `MAXLOOPS` silent samples end the command with `START_TIMEOUT`, not one tick earlier. -/
def Obligations.SilenceAfterReadTimesOut : Prop :=
  ∀ (s : State) (ins : List TickInput), 1 ≤ s.cfg.maxLoops → s.st = .awaitStart → s.gcnt = 0 → TicksAhead ins s →
    ins.length = s.cfg.maxLoops → samplesOf s.cfg ins = List.replicate s.cfg.maxLoops false →
    (∀ k < s.cfg.maxLoops, ∃ t : State, runSteps k s = .next t ∧ t.st = .awaitStart) ∧
    ∃ t : State, runSteps s.cfg.maxLoops s = .next t ∧ t.st = .done ∧ t.cause = 1 ∧ t.gcnt = s.cfg.maxLoops ∧
      t.sent = s.sent ∧ t.incomplete = s.incomplete ∧ t.header = s.header ∧ t.payload = s.payload ∧
      t.bitCount = s.bitCount ∧ t.parityBit = s.parityBit

/-- R116: a line that stays active holds the block inside the pulse, for any number of ticks. -/
def Obligations.StuckActiveLineHoldsThePulse : Prop :=
  ∀ (s : State) (ins : List TickInput), s.st = .startPulse ∨ s.st = .pulse → TicksAhead ins s →
    (∀ inp ∈ ins, sampleOf s.cfg inp = true) → s.wcnt ≤ s.cfg.wcntMax →
    ∃ t : State, runSteps ins.length s = .next t ∧ t.st = s.st ∧ t.wcnt = min (s.wcnt + ins.length) s.cfg.wcntMax ∧
      SameRegisters { s with wcnt := t.wcnt } t

/-- R114, R115: the run-length view. A start pulse and data pulses with every gap shorter than `MAXLOOPS`, then `MAXLOOPS`
silent samples, end in the packet `Decode` gives for the classified widths, at that sample and not before. -/
def Obligations.ReceptionDecodesTheWaveform : Prop :=
  ∀ (s r : State) (ins : List TickInput) (g0 w0 : Nat) (pulses : List (Nat × Nat)), s.cfg.Valid →
    s = { initPacket r with st := .awaitStart } → g0 < s.cfg.maxLoops → 1 ≤ w0 →
    (∀ gw ∈ pulses, 1 ≤ gw.1 ∧ gw.1 < s.cfg.maxLoops ∧ 1 ≤ gw.2) → TicksAhead ins s →
    samplesOf s.cfg ins = frameWave g0 w0 pulses s.cfg.maxLoops →
    (∀ k < ins.length, ∃ t : State, runSteps k s = .next t ∧ isBusy t = true) ∧
    ∃ t : State, runSteps ins.length s = .next t ∧
      SamePacket t (decodeFrame (pulses.map (fun gw => classify s.cfg gw.2)) r)

/-! ### The whole machine -/

/-- R26: a step sets `incomplete` only by ending a frame. -/
def Obligations.IncompleteIsSetOnlyByErrorCheck : Prop :=
  ∀ s t : State, step s = .next t → s.incomplete = false → t.incomplete = true →
    s.st = .gap ∧ s.gcnt + 1 = s.cfg.maxLoops ∧ s.ovf = false ∧ 9 ≤ s.counter.toNat ∧ t.sent = true ∧ t.st = .done

/-- R25: a step sets `sent` only by ending a reception of at least 9 data bits or the last slot of a transmission. -/
def Obligations.SentIsSetOnlyByACompletedCommand : Prop :=
  ∀ s t : State, step s = .next t → s.sent = false → t.sent = true →
    t.st = .done ∧
    (s.st = .gap ∧ s.gcnt + 1 = s.cfg.maxLoops ∧ s.ovf = false ∧ 9 ≤ s.counter.toNat ∨
      s.st = .txRest ∧ s.tcnt + 1 = s.cfg.slotTicks ∧ s.txidx.toNat = s.bitCount.toNat + 9)

/-- R230, R231, R240: from a state of the invariant, a busy command that ends at a tick without reset ends in `DONE`, in one
of the outcomes of the table, with `cause`, `sent`, `incomplete` and the packet as the table gives them. A completed
reception ends with the finalised packet put through ErrorCheck (R133), `incomplete` exactly where that changed it. -/
def Obligations.BusyCommandEndsInOneOutcome : Prop :=
  ∀ (s t : State) (inp : TickInput), Inv s → TickIs inp s → inp.rst = false → step s = .next t → isBusy s = true →
    isBusy t = false →
    t.st = .done ∧ t.lineOutR = false ∧
    (s.st = .awaitStart ∧ s.gcnt + 1 = s.cfg.maxLoops ∧
        t.cause = 1 ∧ t.sent = false ∧ t.incomplete = false ∧
        t.header = 0 ∧ t.payload = 0 ∧ t.bitCount = 0 ∧ t.parityBit = false ∨
      s.st = .gap ∧ s.gcnt + 1 = s.cfg.maxLoops ∧ s.ovf = true ∧
        t.cause = 3 ∧ t.sent = false ∧ t.incomplete = false ∧
        t.header = s.header ∧ t.payload = s.payload ∧ t.bitCount = 0 ∧ t.parityBit = false ∨
      s.st = .gap ∧ s.gcnt + 1 = s.cfg.maxLoops ∧ s.ovf = false ∧ s.counter.toNat < 9 ∧
        t.cause = 2 ∧ t.sent = false ∧ t.incomplete = false ∧
        t.header = s.header ∧ t.payload = 0 ∧ t.bitCount = 0 ∧ t.parityBit = false ∨
      s.st = .gap ∧ s.gcnt + 1 = s.cfg.maxLoops ∧ s.ovf = false ∧ 9 ≤ s.counter.toNat ∧
        t.cause = 0 ∧ t.sent = true ∧
        (∃ f : State, exec .finalize { s with gcnt := s.gcnt + 1 } = .next f ∧
          t.header = (errorCheck f).header ∧ t.payload = (errorCheck f).payload ∧
          t.bitCount = (errorCheck f).bitCount ∧ t.parityBit = (errorCheck f).parityBit ∧
          (t.incomplete = true ↔ errorCheck f ≠ f)) ∨
      s.st = .txWait ∧ s.bcnt + 1 = s.cfg.maxLoops ∧
        t.cause = 4 ∧ t.sent = s.sent ∧ t.incomplete = s.incomplete ∧
        t.header = s.header ∧ t.payload = s.payload ∧ t.bitCount = s.bitCount ∧ t.parityBit = s.parityBit ∨
      s.st = .txRest ∧ s.tcnt + 1 = s.cfg.slotTicks ∧ s.txidx.toNat = s.bitCount.toNat + 9 ∧
        t.cause = 0 ∧ t.sent = true ∧ t.incomplete = s.incomplete ∧
        t.header = s.header ∧ t.payload = s.payload ∧ t.bitCount = s.bitCount ∧ t.parityBit = s.parityBit)

/-- R66: no step changes the parameters. That a reset does not change them either is the model's (log 1). -/
def Obligations.ParametersNeverChange : Prop :=
  ∀ s t : State, step s = .next t → t.cfg = s.cfg

/-- R63: in `DONE` the packet registers keep their values at every tick that accepts no command. -/
def Obligations.ResultsHoldUntilTheNextCommand : Prop :=
  ∀ (s : State) (ins : List TickInput), s.st = .done → TicksAhead ins s →
    (∀ inp ∈ ins, inp.cmdValid = false) →
    ∃ t : State, runSteps ins.length s = .next t ∧ t = { s with env := t.env, tick := s.tick + ins.length }
end

