-- ==== Sys2Proof/Laws/Operands.lean ====
section
/-! SUPPORT. Laws of the operand forms: bits of a written register, parities of slices, fields of the Unique word, counts. -/

namespace Sys2Proof.Machine

/-! ### Bits -/

/-- A bit write, read back at every position. -/
theorem getLsbD_setBit {w : Nat} (r : BitVec w) (i j : Nat) (b : Bool) :
    (setBit r i b).getLsbD j = if j = i ∧ j < w then b else r.getLsbD j := by
  unfold setBit
  by_cases hj : j < w
  · by_cases hi : j = i
    · subst hi
      cases b <;> simp [hj]
    · cases b
      · simp [hj, hi]
        omega
      · simp [hj, hi]
        omega
  · have h1 : r.getLsbD j = false := BitVec.getLsbD_of_ge _ _ (by omega)
    cases b <;> simp [hj, h1, BitVec.getLsbD_shiftLeft]

/-- The copy of the low header bits into the payload, read back at every position. -/
theorem getLsbD_copyBits (p : Payload) (h : Header) (pos k j : Nat) :
    (copyBits p h pos k).getLsbD j =
      if pos ≤ j ∧ j < pos + k ∧ j < 32 then h.getLsbD (j - pos) else p.getLsbD j := by
  induction k with
  | zero => simp [copyBits]; omega
  | succ k ih =>
    rw [copyBits, getLsbD_setBit, ih]
    by_cases hj : j = pos + k
    · subst hj
      by_cases h32 : pos + k < 32 <;> simp [h32]
    · have : (pos ≤ j ∧ j < pos + (k + 1) ∧ j < 32) ↔ (pos ≤ j ∧ j < pos + k ∧ j < 32) := by omega
      simp [hj, this]

/-- A number below `2 ^ n` has no bit at or above `n`. -/
theorem getLsbD_false_of_lt {w : Nat} {v : BitVec w} {n j : Nat} (h : v.toNat < 2 ^ n) (hj : n ≤ j) :
    v.getLsbD j = false := by
  rw [BitVec.getLsbD]
  exact Nat.testBit_lt_two_pow (lt_of_lt_of_le h (Nat.pow_le_pow_right (by omega) hj))

theorem ushiftRight_eq_zero_iff {w : Nat} (v : BitVec w) (n : Nat) : v >>> n = 0#w ↔ v.toNat < 2 ^ n := by
  rw [← BitVec.toNat_inj]
  simp [Nat.shiftRight_eq_div_pow]

/-! ### Parity -/

theorem parUpTo_congr {w v : Nat} (x : BitVec w) (y : BitVec v) (n : Nat)
    (h : ∀ j < n, x.getLsbD j = y.getLsbD j) : parUpTo x n = parUpTo y n := by
  induction n with
  | zero => rfl
  | succ n ih => rw [parUpTo, parUpTo, ih (fun j hj => h j (by omega)), h n (by omega)]

theorem parUpTo_add {w : Nat} (v : BitVec w) (n k : Nat) :
    parUpTo v (n + k) = (parUpTo v n ^^ parUpTo (v >>> n) k) := by
  induction k with
  | zero => simp [parUpTo]
  | succ k ih =>
    rw [← Nat.add_assoc, parUpTo, ih, parUpTo]
    simp

/-- The parity of a slice is whether the number of its ones is odd. -/
theorem parUpTo_eq_countP {w : Nat} (v : BitVec w) (n : Nat) :
    parUpTo v n = decide ((List.range n).countP (fun j => v.getLsbD j) % 2 = 1) := by
  induction n with
  | zero => simp [parUpTo]
  | succ n ih =>
    rw [parUpTo, ih, List.range_succ, List.countP_append]
    cases h : v.getLsbD n <;> simp [h]
    grind

/-! ### Counts and values -/

theorem isEven_iff (n : Count6) : isEven n = true ↔ n.toNat % 2 = 0 := by
  simp [isEven]

theorem toNat_ofNat_count {n : Nat} (h : n < 64) : (BitVec.ofNat 6 n).toNat = n := by
  simp
  omega

theorem count_add {n : Count6} {k : Nat} (h : n.toNat + k < 64) : (n + BitVec.ofNat 6 k).toNat = n.toNat + k := by
  rw [BitVec.toNat_add]
  simp
  omega

theorem bitValue_eq (b : Bool) : bitValue b = if b then 1 else 0 := by
  cases b <;> rfl

/-! ### The Unique word and the wire fields -/

theorem argHeader_eq (arg : UniqueWord) : argHeader arg = arg.setWidth 8 := by
  unfold argHeader
  ext i
  simp

theorem argPayload_setWidth (arg : UniqueWord) : (argPayload arg).setWidth 32 = arg >>> 8 := by
  unfold argPayload
  ext i
  simp
  grind

theorem fieldToBits_length {w : Nat} (v : BitVec w) : (fieldToBits v).length = w := by
  simp [fieldToBits]

theorem bitsToField_priority (v : BitVec 2) : bitsToField 2 (fieldToBits v) = v := by
  revert v
  decide

theorem bitsToField_address (v : BitVec 6) : bitsToField 6 (fieldToBits v) = v := by
  revert v
  decide

theorem evenLengths_eq : evenLengths = [2, 4, 6, 8, 10, 12, 14, 16, 18, 20, 22, 24] := by
  decide

/-- What `minEvenBits` finds: an even length of the list that covers the value, with no smaller one covering it. -/
theorem minEvenBits_cases (v : BitVec 24) :
    ∃ n ∈ evenLengths, (minEvenBits v).toNat = n ∧ v.toNat < 2 ^ n ∧ ∀ m ∈ evenLengths, m < n → ¬ v.toNat < 2 ^ m := by
  unfold minEvenBits
  have hv := v.isLt
  cases hf : evenLengths.find? (fun n => v >>> n == 0#24) with
  | none =>
    rw [List.find?_eq_none] at hf
    have := hf 24 (by decide)
    simp [ushiftRight_eq_zero_iff] at this
    omega
  | some n =>
    have h1 := List.find?_some hf
    have h2 := List.mem_of_find?_eq_some hf
    simp only [beq_iff_eq, ushiftRight_eq_zero_iff] at h1
    refine ⟨n, h2, ?_, h1, fun m hm hlt hc => ?_⟩
    · have : n ≤ 24 := by
        revert h2
        rw [evenLengths_eq]
        simp
        omega
      simp
      omega
    · rw [List.find?_eq_some_iff_append] at hf
      obtain ⟨-, as, bs, he, hall⟩ := hf
      rw [he] at hm
      have hs : evenLengths.Pairwise (· < ·) := by decide
      rw [he, List.pairwise_append] at hs
      simp only [List.mem_append, List.mem_cons] at hm
      rcases hm with hm | hm | hm
      · have := hall m hm
        simp [ushiftRight_eq_zero_iff] at this
        omega
      · omega
      · have := (List.pairwise_cons.1 hs.2.1).1 m hm
        omega

end Sys2Proof.Machine
end

