-- ==== Sys2Proof/Laws/State.lean ====
section
/-! SUPPORT. One lemma per field per shared record update (Machine/Ops.lean, Machine/Fetch.lean): what the update leaves in that
field. -/

namespace Sys2Proof.Machine

/-! ### resetRegisters -/

@[simp] theorem resetRegisters_header (s : State) : (resetRegisters s).header = 0 := rfl
@[simp] theorem resetRegisters_payload (s : State) : (resetRegisters s).payload = 0 := rfl
@[simp] theorem resetRegisters_parityBit (s : State) : (resetRegisters s).parityBit = false := rfl
@[simp] theorem resetRegisters_bitCount (s : State) : (resetRegisters s).bitCount = 0 := rfl
@[simp] theorem resetRegisters_sent (s : State) : (resetRegisters s).sent = false := rfl
@[simp] theorem resetRegisters_incomplete (s : State) : (resetRegisters s).incomplete = false := rfl
@[simp] theorem resetRegisters_cause (s : State) : (resetRegisters s).cause = 0 := rfl
@[simp] theorem resetRegisters_st (s : State) : (resetRegisters s).st = .idle := rfl
@[simp] theorem resetRegisters_counter (s : State) : (resetRegisters s).counter = 0 := rfl
@[simp] theorem resetRegisters_wcnt (s : State) : (resetRegisters s).wcnt = 0 := rfl
@[simp] theorem resetRegisters_gcnt (s : State) : (resetRegisters s).gcnt = 0 := rfl
@[simp] theorem resetRegisters_ovf (s : State) : (resetRegisters s).ovf = false := rfl
@[simp] theorem resetRegisters_txidx (s : State) : (resetRegisters s).txidx = 0 := rfl
@[simp] theorem resetRegisters_tcnt (s : State) : (resetRegisters s).tcnt = 0 := rfl
@[simp] theorem resetRegisters_icnt (s : State) : (resetRegisters s).icnt = 0 := rfl
@[simp] theorem resetRegisters_bcnt (s : State) : (resetRegisters s).bcnt = 0 := rfl
@[simp] theorem resetRegisters_lineOutR (s : State) : (resetRegisters s).lineOutR = false := rfl
@[simp] theorem resetRegisters_cfg (s : State) : (resetRegisters s).cfg = s.cfg := rfl
@[simp] theorem resetRegisters_env (s : State) : (resetRegisters s).env = s.env := rfl
@[simp] theorem resetRegisters_tick (s : State) : (resetRegisters s).tick = s.tick := rfl
@[simp] theorem resetRegisters_result (s : State) : (resetRegisters s).result = s.result := rfl

/-! ### raise -/

@[simp] theorem raise_header (c : Cause) (s : State) : (raise c s).header = s.header := rfl
@[simp] theorem raise_payload (c : Cause) (s : State) : (raise c s).payload = s.payload := rfl
@[simp] theorem raise_parityBit (c : Cause) (s : State) : (raise c s).parityBit = s.parityBit := rfl
@[simp] theorem raise_bitCount (c : Cause) (s : State) : (raise c s).bitCount = s.bitCount := rfl
@[simp] theorem raise_sent (c : Cause) (s : State) : (raise c s).sent = s.sent := rfl
@[simp] theorem raise_incomplete (c : Cause) (s : State) : (raise c s).incomplete = s.incomplete := rfl
@[simp] theorem raise_cause (c : Cause) (s : State) : (raise c s).cause = causeCode c := rfl
@[simp] theorem raise_st (c : Cause) (s : State) : (raise c s).st = .done := rfl
@[simp] theorem raise_counter (c : Cause) (s : State) : (raise c s).counter = s.counter := rfl
@[simp] theorem raise_wcnt (c : Cause) (s : State) : (raise c s).wcnt = s.wcnt := rfl
@[simp] theorem raise_gcnt (c : Cause) (s : State) : (raise c s).gcnt = s.gcnt := rfl
@[simp] theorem raise_ovf (c : Cause) (s : State) : (raise c s).ovf = s.ovf := rfl
@[simp] theorem raise_txidx (c : Cause) (s : State) : (raise c s).txidx = s.txidx := rfl
@[simp] theorem raise_tcnt (c : Cause) (s : State) : (raise c s).tcnt = s.tcnt := rfl
@[simp] theorem raise_icnt (c : Cause) (s : State) : (raise c s).icnt = s.icnt := rfl
@[simp] theorem raise_bcnt (c : Cause) (s : State) : (raise c s).bcnt = s.bcnt := rfl
@[simp] theorem raise_lineOutR (c : Cause) (s : State) : (raise c s).lineOutR = s.lineOutR := rfl
@[simp] theorem raise_cfg (c : Cause) (s : State) : (raise c s).cfg = s.cfg := rfl
@[simp] theorem raise_env (c : Cause) (s : State) : (raise c s).env = s.env := rfl
@[simp] theorem raise_tick (c : Cause) (s : State) : (raise c s).tick = s.tick := rfl
@[simp] theorem raise_result (c : Cause) (s : State) : (raise c s).result = s.result := rfl

/-! ### clearForSend -/

@[simp] theorem clearForSend_header (s : State) : (clearForSend s).header = s.header := rfl
@[simp] theorem clearForSend_payload (s : State) : (clearForSend s).payload = s.payload := rfl
@[simp] theorem clearForSend_parityBit (s : State) : (clearForSend s).parityBit = s.parityBit := rfl
@[simp] theorem clearForSend_bitCount (s : State) : (clearForSend s).bitCount = s.bitCount := rfl
@[simp] theorem clearForSend_sent (s : State) : (clearForSend s).sent = s.sent := rfl
@[simp] theorem clearForSend_incomplete (s : State) : (clearForSend s).incomplete = s.incomplete := rfl
@[simp] theorem clearForSend_cause (s : State) : (clearForSend s).cause = 0 := rfl
@[simp] theorem clearForSend_st (s : State) : (clearForSend s).st = s.st := rfl
@[simp] theorem clearForSend_counter (s : State) : (clearForSend s).counter = s.counter := rfl
@[simp] theorem clearForSend_wcnt (s : State) : (clearForSend s).wcnt = s.wcnt := rfl
@[simp] theorem clearForSend_gcnt (s : State) : (clearForSend s).gcnt = s.gcnt := rfl
@[simp] theorem clearForSend_ovf (s : State) : (clearForSend s).ovf = s.ovf := rfl
@[simp] theorem clearForSend_txidx (s : State) : (clearForSend s).txidx = 0 := rfl
@[simp] theorem clearForSend_tcnt (s : State) : (clearForSend s).tcnt = 0 := rfl
@[simp] theorem clearForSend_icnt (s : State) : (clearForSend s).icnt = 0 := rfl
@[simp] theorem clearForSend_bcnt (s : State) : (clearForSend s).bcnt = 0 := rfl
@[simp] theorem clearForSend_lineOutR (s : State) : (clearForSend s).lineOutR = false := rfl
@[simp] theorem clearForSend_cfg (s : State) : (clearForSend s).cfg = s.cfg := rfl
@[simp] theorem clearForSend_env (s : State) : (clearForSend s).env = s.env := rfl
@[simp] theorem clearForSend_tick (s : State) : (clearForSend s).tick = s.tick := rfl
@[simp] theorem clearForSend_result (s : State) : (clearForSend s).result = s.result := rfl

/-! ### initPacket -/

@[simp] theorem initPacket_header (s : State) : (initPacket s).header = 0 := rfl
@[simp] theorem initPacket_payload (s : State) : (initPacket s).payload = 0 := rfl
@[simp] theorem initPacket_parityBit (s : State) : (initPacket s).parityBit = false := rfl
@[simp] theorem initPacket_bitCount (s : State) : (initPacket s).bitCount = 0 := rfl
@[simp] theorem initPacket_sent (s : State) : (initPacket s).sent = false := rfl
@[simp] theorem initPacket_incomplete (s : State) : (initPacket s).incomplete = false := rfl
@[simp] theorem initPacket_cause (s : State) : (initPacket s).cause = 0 := rfl
@[simp] theorem initPacket_st (s : State) : (initPacket s).st = s.st := rfl
@[simp] theorem initPacket_counter (s : State) : (initPacket s).counter = 0 := rfl
@[simp] theorem initPacket_wcnt (s : State) : (initPacket s).wcnt = 0 := rfl
@[simp] theorem initPacket_gcnt (s : State) : (initPacket s).gcnt = 0 := rfl
@[simp] theorem initPacket_ovf (s : State) : (initPacket s).ovf = false := rfl
@[simp] theorem initPacket_txidx (s : State) : (initPacket s).txidx = s.txidx := rfl
@[simp] theorem initPacket_tcnt (s : State) : (initPacket s).tcnt = s.tcnt := rfl
@[simp] theorem initPacket_icnt (s : State) : (initPacket s).icnt = s.icnt := rfl
@[simp] theorem initPacket_bcnt (s : State) : (initPacket s).bcnt = s.bcnt := rfl
@[simp] theorem initPacket_lineOutR (s : State) : (initPacket s).lineOutR = s.lineOutR := rfl
@[simp] theorem initPacket_cfg (s : State) : (initPacket s).cfg = s.cfg := rfl
@[simp] theorem initPacket_env (s : State) : (initPacket s).env = s.env := rfl
@[simp] theorem initPacket_tick (s : State) : (initPacket s).tick = s.tick := rfl
@[simp] theorem initPacket_result (s : State) : (initPacket s).result = s.result := rfl

/-! ### finalize -/

@[simp] theorem finalize_header (s : State) : (finalize s).header = s.header := rfl
@[simp] theorem finalize_payload (s : State) : (finalize s).payload = setBit s.payload (s.counter.toNat - 9) false := rfl
@[simp] theorem finalize_parityBit (s : State) : (finalize s).parityBit = s.payload.getLsbD (s.counter.toNat - 9) := rfl
@[simp] theorem finalize_bitCount (s : State) : (finalize s).bitCount = BitVec.ofNat 6 (s.counter.toNat - 9) := rfl
@[simp] theorem finalize_sent (s : State) : (finalize s).sent = s.sent := rfl
@[simp] theorem finalize_incomplete (s : State) : (finalize s).incomplete = s.incomplete := rfl
@[simp] theorem finalize_cause (s : State) : (finalize s).cause = s.cause := rfl
@[simp] theorem finalize_st (s : State) : (finalize s).st = s.st := rfl
@[simp] theorem finalize_counter (s : State) : (finalize s).counter = s.counter := rfl
@[simp] theorem finalize_wcnt (s : State) : (finalize s).wcnt = s.wcnt := rfl
@[simp] theorem finalize_gcnt (s : State) : (finalize s).gcnt = s.gcnt := rfl
@[simp] theorem finalize_ovf (s : State) : (finalize s).ovf = s.ovf := rfl
@[simp] theorem finalize_txidx (s : State) : (finalize s).txidx = s.txidx := rfl
@[simp] theorem finalize_tcnt (s : State) : (finalize s).tcnt = s.tcnt := rfl
@[simp] theorem finalize_icnt (s : State) : (finalize s).icnt = s.icnt := rfl
@[simp] theorem finalize_bcnt (s : State) : (finalize s).bcnt = s.bcnt := rfl
@[simp] theorem finalize_lineOutR (s : State) : (finalize s).lineOutR = s.lineOutR := rfl
@[simp] theorem finalize_cfg (s : State) : (finalize s).cfg = s.cfg := rfl
@[simp] theorem finalize_env (s : State) : (finalize s).env = s.env := rfl
@[simp] theorem finalize_tick (s : State) : (finalize s).tick = s.tick := rfl
@[simp] theorem finalize_result (s : State) : (finalize s).result = s.result := rfl

/-! ### xfer -/

@[simp] theorem xfer_header (k : Nat) (s : State) : (xfer k s).header = s.header <<< k := rfl
@[simp] theorem xfer_payload (k : Nat) (s : State) : (xfer k s).payload = copyBits s.payload s.header s.bitCount.toNat k := rfl
@[simp] theorem xfer_parityBit (k : Nat) (s : State) : (xfer k s).parityBit = s.parityBit := rfl
@[simp] theorem xfer_bitCount (k : Nat) (s : State) : (xfer k s).bitCount = s.bitCount + BitVec.ofNat 6 k := rfl
@[simp] theorem xfer_sent (k : Nat) (s : State) : (xfer k s).sent = s.sent := rfl
@[simp] theorem xfer_incomplete (k : Nat) (s : State) : (xfer k s).incomplete = true := rfl
@[simp] theorem xfer_cause (k : Nat) (s : State) : (xfer k s).cause = s.cause := rfl
@[simp] theorem xfer_st (k : Nat) (s : State) : (xfer k s).st = s.st := rfl
@[simp] theorem xfer_counter (k : Nat) (s : State) : (xfer k s).counter = s.counter := rfl
@[simp] theorem xfer_wcnt (k : Nat) (s : State) : (xfer k s).wcnt = s.wcnt := rfl
@[simp] theorem xfer_gcnt (k : Nat) (s : State) : (xfer k s).gcnt = s.gcnt := rfl
@[simp] theorem xfer_ovf (k : Nat) (s : State) : (xfer k s).ovf = s.ovf := rfl
@[simp] theorem xfer_txidx (k : Nat) (s : State) : (xfer k s).txidx = s.txidx := rfl
@[simp] theorem xfer_tcnt (k : Nat) (s : State) : (xfer k s).tcnt = s.tcnt := rfl
@[simp] theorem xfer_icnt (k : Nat) (s : State) : (xfer k s).icnt = s.icnt := rfl
@[simp] theorem xfer_bcnt (k : Nat) (s : State) : (xfer k s).bcnt = s.bcnt := rfl
@[simp] theorem xfer_lineOutR (k : Nat) (s : State) : (xfer k s).lineOutR = s.lineOutR := rfl
@[simp] theorem xfer_cfg (k : Nat) (s : State) : (xfer k s).cfg = s.cfg := rfl
@[simp] theorem xfer_env (k : Nat) (s : State) : (xfer k s).env = s.env := rfl
@[simp] theorem xfer_tick (k : Nat) (s : State) : (xfer k s).tick = s.tick := rfl
@[simp] theorem xfer_result (k : Nat) (s : State) : (xfer k s).result = s.result := rfl

/-! ### setLowTwo -/

@[simp] theorem setLowTwo_header (v : BitVec 2) (s : State) : (setLowTwo v s).header = setBit (setBit s.header 0 (v.getLsbD 0)) 1 (v.getLsbD 1) := rfl
@[simp] theorem setLowTwo_payload (v : BitVec 2) (s : State) : (setLowTwo v s).payload = s.payload := rfl
@[simp] theorem setLowTwo_parityBit (v : BitVec 2) (s : State) : (setLowTwo v s).parityBit = s.parityBit := rfl
@[simp] theorem setLowTwo_bitCount (v : BitVec 2) (s : State) : (setLowTwo v s).bitCount = s.bitCount := rfl
@[simp] theorem setLowTwo_sent (v : BitVec 2) (s : State) : (setLowTwo v s).sent = s.sent := rfl
@[simp] theorem setLowTwo_incomplete (v : BitVec 2) (s : State) : (setLowTwo v s).incomplete = s.incomplete := rfl
@[simp] theorem setLowTwo_cause (v : BitVec 2) (s : State) : (setLowTwo v s).cause = s.cause := rfl
@[simp] theorem setLowTwo_st (v : BitVec 2) (s : State) : (setLowTwo v s).st = s.st := rfl
@[simp] theorem setLowTwo_counter (v : BitVec 2) (s : State) : (setLowTwo v s).counter = s.counter := rfl
@[simp] theorem setLowTwo_wcnt (v : BitVec 2) (s : State) : (setLowTwo v s).wcnt = s.wcnt := rfl
@[simp] theorem setLowTwo_gcnt (v : BitVec 2) (s : State) : (setLowTwo v s).gcnt = s.gcnt := rfl
@[simp] theorem setLowTwo_ovf (v : BitVec 2) (s : State) : (setLowTwo v s).ovf = s.ovf := rfl
@[simp] theorem setLowTwo_txidx (v : BitVec 2) (s : State) : (setLowTwo v s).txidx = s.txidx := rfl
@[simp] theorem setLowTwo_tcnt (v : BitVec 2) (s : State) : (setLowTwo v s).tcnt = s.tcnt := rfl
@[simp] theorem setLowTwo_icnt (v : BitVec 2) (s : State) : (setLowTwo v s).icnt = s.icnt := rfl
@[simp] theorem setLowTwo_bcnt (v : BitVec 2) (s : State) : (setLowTwo v s).bcnt = s.bcnt := rfl
@[simp] theorem setLowTwo_lineOutR (v : BitVec 2) (s : State) : (setLowTwo v s).lineOutR = s.lineOutR := rfl
@[simp] theorem setLowTwo_cfg (v : BitVec 2) (s : State) : (setLowTwo v s).cfg = s.cfg := rfl
@[simp] theorem setLowTwo_env (v : BitVec 2) (s : State) : (setLowTwo v s).env = s.env := rfl
@[simp] theorem setLowTwo_tick (v : BitVec 2) (s : State) : (setLowTwo v s).tick = s.tick := rfl
@[simp] theorem setLowTwo_result (v : BitVec 2) (s : State) : (setLowTwo v s).result = s.result := rfl

/-! ### ecOddFix -/

@[simp] theorem ecOddFix_header (s : State) : (ecOddFix s).header = s.header + 1 := rfl
@[simp] theorem ecOddFix_payload (s : State) : (ecOddFix s).payload = s.payload := rfl
@[simp] theorem ecOddFix_parityBit (s : State) : (ecOddFix s).parityBit = s.parityBit := rfl
@[simp] theorem ecOddFix_bitCount (s : State) : (ecOddFix s).bitCount = s.bitCount := rfl
@[simp] theorem ecOddFix_sent (s : State) : (ecOddFix s).sent = s.sent := rfl
@[simp] theorem ecOddFix_incomplete (s : State) : (ecOddFix s).incomplete = s.incomplete := rfl
@[simp] theorem ecOddFix_cause (s : State) : (ecOddFix s).cause = s.cause := rfl
@[simp] theorem ecOddFix_st (s : State) : (ecOddFix s).st = s.st := rfl
@[simp] theorem ecOddFix_counter (s : State) : (ecOddFix s).counter = s.counter := rfl
@[simp] theorem ecOddFix_wcnt (s : State) : (ecOddFix s).wcnt = s.wcnt := rfl
@[simp] theorem ecOddFix_gcnt (s : State) : (ecOddFix s).gcnt = s.gcnt := rfl
@[simp] theorem ecOddFix_ovf (s : State) : (ecOddFix s).ovf = s.ovf := rfl
@[simp] theorem ecOddFix_txidx (s : State) : (ecOddFix s).txidx = s.txidx := rfl
@[simp] theorem ecOddFix_tcnt (s : State) : (ecOddFix s).tcnt = s.tcnt := rfl
@[simp] theorem ecOddFix_icnt (s : State) : (ecOddFix s).icnt = s.icnt := rfl
@[simp] theorem ecOddFix_bcnt (s : State) : (ecOddFix s).bcnt = s.bcnt := rfl
@[simp] theorem ecOddFix_lineOutR (s : State) : (ecOddFix s).lineOutR = s.lineOutR := rfl
@[simp] theorem ecOddFix_cfg (s : State) : (ecOddFix s).cfg = s.cfg := rfl
@[simp] theorem ecOddFix_env (s : State) : (ecOddFix s).env = s.env := rfl
@[simp] theorem ecOddFix_tick (s : State) : (ecOddFix s).tick = s.tick := rfl
@[simp] theorem ecOddFix_result (s : State) : (ecOddFix s).result = s.result := rfl

/-! ### completeReception -/

@[simp] theorem completeReception_header (s : State) : (completeReception s).header = s.header := rfl
@[simp] theorem completeReception_payload (s : State) : (completeReception s).payload = s.payload := rfl
@[simp] theorem completeReception_parityBit (s : State) : (completeReception s).parityBit = s.parityBit := rfl
@[simp] theorem completeReception_bitCount (s : State) : (completeReception s).bitCount = s.bitCount := rfl
@[simp] theorem completeReception_sent (s : State) : (completeReception s).sent = true := rfl
@[simp] theorem completeReception_incomplete (s : State) : (completeReception s).incomplete = s.incomplete := rfl
@[simp] theorem completeReception_cause (s : State) : (completeReception s).cause = s.cause := rfl
@[simp] theorem completeReception_st (s : State) : (completeReception s).st = .done := rfl
@[simp] theorem completeReception_counter (s : State) : (completeReception s).counter = s.counter := rfl
@[simp] theorem completeReception_wcnt (s : State) : (completeReception s).wcnt = s.wcnt := rfl
@[simp] theorem completeReception_gcnt (s : State) : (completeReception s).gcnt = s.gcnt := rfl
@[simp] theorem completeReception_ovf (s : State) : (completeReception s).ovf = s.ovf := rfl
@[simp] theorem completeReception_txidx (s : State) : (completeReception s).txidx = s.txidx := rfl
@[simp] theorem completeReception_tcnt (s : State) : (completeReception s).tcnt = s.tcnt := rfl
@[simp] theorem completeReception_icnt (s : State) : (completeReception s).icnt = s.icnt := rfl
@[simp] theorem completeReception_bcnt (s : State) : (completeReception s).bcnt = s.bcnt := rfl
@[simp] theorem completeReception_lineOutR (s : State) : (completeReception s).lineOutR = s.lineOutR := rfl
@[simp] theorem completeReception_cfg (s : State) : (completeReception s).cfg = s.cfg := rfl
@[simp] theorem completeReception_env (s : State) : (completeReception s).env = s.env := rfl
@[simp] theorem completeReception_tick (s : State) : (completeReception s).tick = s.tick := rfl
@[simp] theorem completeReception_result (s : State) : (completeReception s).result = s.result := rfl

/-! ### beginPulse -/

@[simp] theorem beginPulse_header (f : Fsm) (s : State) : (beginPulse f s).header = s.header := rfl
@[simp] theorem beginPulse_payload (f : Fsm) (s : State) : (beginPulse f s).payload = s.payload := rfl
@[simp] theorem beginPulse_parityBit (f : Fsm) (s : State) : (beginPulse f s).parityBit = s.parityBit := rfl
@[simp] theorem beginPulse_bitCount (f : Fsm) (s : State) : (beginPulse f s).bitCount = s.bitCount := rfl
@[simp] theorem beginPulse_sent (f : Fsm) (s : State) : (beginPulse f s).sent = s.sent := rfl
@[simp] theorem beginPulse_incomplete (f : Fsm) (s : State) : (beginPulse f s).incomplete = s.incomplete := rfl
@[simp] theorem beginPulse_cause (f : Fsm) (s : State) : (beginPulse f s).cause = s.cause := rfl
@[simp] theorem beginPulse_st (f : Fsm) (s : State) : (beginPulse f s).st = f := rfl
@[simp] theorem beginPulse_counter (f : Fsm) (s : State) : (beginPulse f s).counter = s.counter := rfl
@[simp] theorem beginPulse_wcnt (f : Fsm) (s : State) : (beginPulse f s).wcnt = 1 := rfl
@[simp] theorem beginPulse_gcnt (f : Fsm) (s : State) : (beginPulse f s).gcnt = s.gcnt := rfl
@[simp] theorem beginPulse_ovf (f : Fsm) (s : State) : (beginPulse f s).ovf = s.ovf := rfl
@[simp] theorem beginPulse_txidx (f : Fsm) (s : State) : (beginPulse f s).txidx = s.txidx := rfl
@[simp] theorem beginPulse_tcnt (f : Fsm) (s : State) : (beginPulse f s).tcnt = s.tcnt := rfl
@[simp] theorem beginPulse_icnt (f : Fsm) (s : State) : (beginPulse f s).icnt = s.icnt := rfl
@[simp] theorem beginPulse_bcnt (f : Fsm) (s : State) : (beginPulse f s).bcnt = s.bcnt := rfl
@[simp] theorem beginPulse_lineOutR (f : Fsm) (s : State) : (beginPulse f s).lineOutR = s.lineOutR := rfl
@[simp] theorem beginPulse_cfg (f : Fsm) (s : State) : (beginPulse f s).cfg = s.cfg := rfl
@[simp] theorem beginPulse_env (f : Fsm) (s : State) : (beginPulse f s).env = s.env := rfl
@[simp] theorem beginPulse_tick (f : Fsm) (s : State) : (beginPulse f s).tick = s.tick := rfl
@[simp] theorem beginPulse_result (f : Fsm) (s : State) : (beginPulse f s).result = s.result := rfl

/-! ### beginGap -/

@[simp] theorem beginGap_header (s : State) : (beginGap s).header = s.header := rfl
@[simp] theorem beginGap_payload (s : State) : (beginGap s).payload = s.payload := rfl
@[simp] theorem beginGap_parityBit (s : State) : (beginGap s).parityBit = s.parityBit := rfl
@[simp] theorem beginGap_bitCount (s : State) : (beginGap s).bitCount = s.bitCount := rfl
@[simp] theorem beginGap_sent (s : State) : (beginGap s).sent = s.sent := rfl
@[simp] theorem beginGap_incomplete (s : State) : (beginGap s).incomplete = s.incomplete := rfl
@[simp] theorem beginGap_cause (s : State) : (beginGap s).cause = s.cause := rfl
@[simp] theorem beginGap_st (s : State) : (beginGap s).st = .gap := rfl
@[simp] theorem beginGap_counter (s : State) : (beginGap s).counter = s.counter := rfl
@[simp] theorem beginGap_wcnt (s : State) : (beginGap s).wcnt = s.wcnt := rfl
@[simp] theorem beginGap_gcnt (s : State) : (beginGap s).gcnt = 1 := rfl
@[simp] theorem beginGap_ovf (s : State) : (beginGap s).ovf = s.ovf := rfl
@[simp] theorem beginGap_txidx (s : State) : (beginGap s).txidx = s.txidx := rfl
@[simp] theorem beginGap_tcnt (s : State) : (beginGap s).tcnt = s.tcnt := rfl
@[simp] theorem beginGap_icnt (s : State) : (beginGap s).icnt = s.icnt := rfl
@[simp] theorem beginGap_bcnt (s : State) : (beginGap s).bcnt = s.bcnt := rfl
@[simp] theorem beginGap_lineOutR (s : State) : (beginGap s).lineOutR = s.lineOutR := rfl
@[simp] theorem beginGap_cfg (s : State) : (beginGap s).cfg = s.cfg := rfl
@[simp] theorem beginGap_env (s : State) : (beginGap s).env = s.env := rfl
@[simp] theorem beginGap_tick (s : State) : (beginGap s).tick = s.tick := rfl
@[simp] theorem beginGap_result (s : State) : (beginGap s).result = s.result := rfl

/-! ### countWidth -/

@[simp] theorem countWidth_header (s : State) : (countWidth s).header = s.header := rfl
@[simp] theorem countWidth_payload (s : State) : (countWidth s).payload = s.payload := rfl
@[simp] theorem countWidth_parityBit (s : State) : (countWidth s).parityBit = s.parityBit := rfl
@[simp] theorem countWidth_bitCount (s : State) : (countWidth s).bitCount = s.bitCount := rfl
@[simp] theorem countWidth_sent (s : State) : (countWidth s).sent = s.sent := rfl
@[simp] theorem countWidth_incomplete (s : State) : (countWidth s).incomplete = s.incomplete := rfl
@[simp] theorem countWidth_cause (s : State) : (countWidth s).cause = s.cause := rfl
@[simp] theorem countWidth_st (s : State) : (countWidth s).st = s.st := rfl
@[simp] theorem countWidth_counter (s : State) : (countWidth s).counter = s.counter := rfl
@[simp] theorem countWidth_wcnt (s : State) : (countWidth s).wcnt = min (s.wcnt + 1) s.cfg.wcntMax := rfl
@[simp] theorem countWidth_gcnt (s : State) : (countWidth s).gcnt = s.gcnt := rfl
@[simp] theorem countWidth_ovf (s : State) : (countWidth s).ovf = s.ovf := rfl
@[simp] theorem countWidth_txidx (s : State) : (countWidth s).txidx = s.txidx := rfl
@[simp] theorem countWidth_tcnt (s : State) : (countWidth s).tcnt = s.tcnt := rfl
@[simp] theorem countWidth_icnt (s : State) : (countWidth s).icnt = s.icnt := rfl
@[simp] theorem countWidth_bcnt (s : State) : (countWidth s).bcnt = s.bcnt := rfl
@[simp] theorem countWidth_lineOutR (s : State) : (countWidth s).lineOutR = s.lineOutR := rfl
@[simp] theorem countWidth_cfg (s : State) : (countWidth s).cfg = s.cfg := rfl
@[simp] theorem countWidth_env (s : State) : (countWidth s).env = s.env := rfl
@[simp] theorem countWidth_tick (s : State) : (countWidth s).tick = s.tick := rfl
@[simp] theorem countWidth_result (s : State) : (countWidth s).result = s.result := rfl

/-! ### countSilence -/

@[simp] theorem countSilence_header (s : State) : (countSilence s).header = s.header := rfl
@[simp] theorem countSilence_payload (s : State) : (countSilence s).payload = s.payload := rfl
@[simp] theorem countSilence_parityBit (s : State) : (countSilence s).parityBit = s.parityBit := rfl
@[simp] theorem countSilence_bitCount (s : State) : (countSilence s).bitCount = s.bitCount := rfl
@[simp] theorem countSilence_sent (s : State) : (countSilence s).sent = s.sent := rfl
@[simp] theorem countSilence_incomplete (s : State) : (countSilence s).incomplete = s.incomplete := rfl
@[simp] theorem countSilence_cause (s : State) : (countSilence s).cause = s.cause := rfl
@[simp] theorem countSilence_st (s : State) : (countSilence s).st = s.st := rfl
@[simp] theorem countSilence_counter (s : State) : (countSilence s).counter = s.counter := rfl
@[simp] theorem countSilence_wcnt (s : State) : (countSilence s).wcnt = s.wcnt := rfl
@[simp] theorem countSilence_gcnt (s : State) : (countSilence s).gcnt = s.gcnt + 1 := rfl
@[simp] theorem countSilence_ovf (s : State) : (countSilence s).ovf = s.ovf := rfl
@[simp] theorem countSilence_txidx (s : State) : (countSilence s).txidx = s.txidx := rfl
@[simp] theorem countSilence_tcnt (s : State) : (countSilence s).tcnt = s.tcnt := rfl
@[simp] theorem countSilence_icnt (s : State) : (countSilence s).icnt = s.icnt := rfl
@[simp] theorem countSilence_bcnt (s : State) : (countSilence s).bcnt = s.bcnt := rfl
@[simp] theorem countSilence_lineOutR (s : State) : (countSilence s).lineOutR = s.lineOutR := rfl
@[simp] theorem countSilence_cfg (s : State) : (countSilence s).cfg = s.cfg := rfl
@[simp] theorem countSilence_env (s : State) : (countSilence s).env = s.env := rfl
@[simp] theorem countSilence_tick (s : State) : (countSilence s).tick = s.tick := rfl
@[simp] theorem countSilence_result (s : State) : (countSilence s).result = s.result := rfl

/-! ### loadFields -/

@[simp] theorem loadFields_header (arg : UniqueWord) (s : State) : (loadFields arg s).header = argHeader arg := rfl
@[simp] theorem loadFields_payload (arg : UniqueWord) (s : State) : (loadFields arg s).payload = (argPayload arg).setWidth 32 := rfl
@[simp] theorem loadFields_parityBit (arg : UniqueWord) (s : State) : (loadFields arg s).parityBit = false := rfl
@[simp] theorem loadFields_bitCount (arg : UniqueWord) (s : State) : (loadFields arg s).bitCount = minEvenBits (argPayload arg) := rfl
@[simp] theorem loadFields_sent (arg : UniqueWord) (s : State) : (loadFields arg s).sent = false := rfl
@[simp] theorem loadFields_incomplete (arg : UniqueWord) (s : State) : (loadFields arg s).incomplete = false := rfl
@[simp] theorem loadFields_cause (arg : UniqueWord) (s : State) : (loadFields arg s).cause = 0 := rfl
@[simp] theorem loadFields_st (arg : UniqueWord) (s : State) : (loadFields arg s).st = s.st := rfl
@[simp] theorem loadFields_counter (arg : UniqueWord) (s : State) : (loadFields arg s).counter = 0 := rfl
@[simp] theorem loadFields_wcnt (arg : UniqueWord) (s : State) : (loadFields arg s).wcnt = 0 := rfl
@[simp] theorem loadFields_gcnt (arg : UniqueWord) (s : State) : (loadFields arg s).gcnt = 0 := rfl
@[simp] theorem loadFields_ovf (arg : UniqueWord) (s : State) : (loadFields arg s).ovf = false := rfl
@[simp] theorem loadFields_txidx (arg : UniqueWord) (s : State) : (loadFields arg s).txidx = s.txidx := rfl
@[simp] theorem loadFields_tcnt (arg : UniqueWord) (s : State) : (loadFields arg s).tcnt = s.tcnt := rfl
@[simp] theorem loadFields_icnt (arg : UniqueWord) (s : State) : (loadFields arg s).icnt = s.icnt := rfl
@[simp] theorem loadFields_bcnt (arg : UniqueWord) (s : State) : (loadFields arg s).bcnt = s.bcnt := rfl
@[simp] theorem loadFields_lineOutR (arg : UniqueWord) (s : State) : (loadFields arg s).lineOutR = s.lineOutR := rfl
@[simp] theorem loadFields_cfg (arg : UniqueWord) (s : State) : (loadFields arg s).cfg = s.cfg := rfl
@[simp] theorem loadFields_env (arg : UniqueWord) (s : State) : (loadFields arg s).env = s.env := rfl
@[simp] theorem loadFields_tick (arg : UniqueWord) (s : State) : (loadFields arg s).tick = s.tick := rfl
@[simp] theorem loadFields_result (arg : UniqueWord) (s : State) : (loadFields arg s).result = s.result := rfl

/-! ### storeParity -/

@[simp] theorem storeParity_header (s : State) : (storeParity s).header = s.header := by simp only [storeParity]
@[simp] theorem storeParity_payload (s : State) : (storeParity s).payload = s.payload := by simp only [storeParity]
@[simp] theorem storeParity_parityBit (s : State) : (storeParity s).parityBit = calcParity s := by simp only [storeParity]
@[simp] theorem storeParity_bitCount (s : State) : (storeParity s).bitCount = s.bitCount := by simp only [storeParity]
@[simp] theorem storeParity_sent (s : State) : (storeParity s).sent = s.sent := by simp only [storeParity]
@[simp] theorem storeParity_incomplete (s : State) : (storeParity s).incomplete = s.incomplete := by simp only [storeParity]
@[simp] theorem storeParity_cause (s : State) : (storeParity s).cause = s.cause := by simp only [storeParity]
@[simp] theorem storeParity_st (s : State) : (storeParity s).st = s.st := by simp only [storeParity]
@[simp] theorem storeParity_counter (s : State) : (storeParity s).counter = s.counter := by simp only [storeParity]
@[simp] theorem storeParity_wcnt (s : State) : (storeParity s).wcnt = s.wcnt := by simp only [storeParity]
@[simp] theorem storeParity_gcnt (s : State) : (storeParity s).gcnt = s.gcnt := by simp only [storeParity]
@[simp] theorem storeParity_ovf (s : State) : (storeParity s).ovf = s.ovf := by simp only [storeParity]
@[simp] theorem storeParity_txidx (s : State) : (storeParity s).txidx = s.txidx := by simp only [storeParity]
@[simp] theorem storeParity_tcnt (s : State) : (storeParity s).tcnt = s.tcnt := by simp only [storeParity]
@[simp] theorem storeParity_icnt (s : State) : (storeParity s).icnt = s.icnt := by simp only [storeParity]
@[simp] theorem storeParity_bcnt (s : State) : (storeParity s).bcnt = s.bcnt := by simp only [storeParity]
@[simp] theorem storeParity_lineOutR (s : State) : (storeParity s).lineOutR = s.lineOutR := by simp only [storeParity]
@[simp] theorem storeParity_cfg (s : State) : (storeParity s).cfg = s.cfg := by simp only [storeParity]
@[simp] theorem storeParity_env (s : State) : (storeParity s).env = s.env := by simp only [storeParity]
@[simp] theorem storeParity_tick (s : State) : (storeParity s).tick = s.tick := by simp only [storeParity]
@[simp] theorem storeParity_result (s : State) : (storeParity s).result = s.result := by simp only [storeParity]

/-! ### beginSlot -/

@[simp] theorem beginSlot_header (i : Count6) (s : State) : (beginSlot i s).header = s.header := rfl
@[simp] theorem beginSlot_payload (i : Count6) (s : State) : (beginSlot i s).payload = s.payload := rfl
@[simp] theorem beginSlot_parityBit (i : Count6) (s : State) : (beginSlot i s).parityBit = s.parityBit := rfl
@[simp] theorem beginSlot_bitCount (i : Count6) (s : State) : (beginSlot i s).bitCount = s.bitCount := rfl
@[simp] theorem beginSlot_sent (i : Count6) (s : State) : (beginSlot i s).sent = s.sent := rfl
@[simp] theorem beginSlot_incomplete (i : Count6) (s : State) : (beginSlot i s).incomplete = s.incomplete := rfl
@[simp] theorem beginSlot_cause (i : Count6) (s : State) : (beginSlot i s).cause = s.cause := rfl
@[simp] theorem beginSlot_st (i : Count6) (s : State) : (beginSlot i s).st = .txActive := rfl
@[simp] theorem beginSlot_counter (i : Count6) (s : State) : (beginSlot i s).counter = s.counter := rfl
@[simp] theorem beginSlot_wcnt (i : Count6) (s : State) : (beginSlot i s).wcnt = s.wcnt := rfl
@[simp] theorem beginSlot_gcnt (i : Count6) (s : State) : (beginSlot i s).gcnt = s.gcnt := rfl
@[simp] theorem beginSlot_ovf (i : Count6) (s : State) : (beginSlot i s).ovf = s.ovf := rfl
@[simp] theorem beginSlot_txidx (i : Count6) (s : State) : (beginSlot i s).txidx = i := rfl
@[simp] theorem beginSlot_tcnt (i : Count6) (s : State) : (beginSlot i s).tcnt = 0 := rfl
@[simp] theorem beginSlot_icnt (i : Count6) (s : State) : (beginSlot i s).icnt = s.icnt := rfl
@[simp] theorem beginSlot_bcnt (i : Count6) (s : State) : (beginSlot i s).bcnt = s.bcnt := rfl
@[simp] theorem beginSlot_lineOutR (i : Count6) (s : State) : (beginSlot i s).lineOutR = true := rfl
@[simp] theorem beginSlot_cfg (i : Count6) (s : State) : (beginSlot i s).cfg = s.cfg := rfl
@[simp] theorem beginSlot_env (i : Count6) (s : State) : (beginSlot i s).env = s.env := rfl
@[simp] theorem beginSlot_tick (i : Count6) (s : State) : (beginSlot i s).tick = s.tick := rfl
@[simp] theorem beginSlot_result (i : Count6) (s : State) : (beginSlot i s).result = s.result := rfl

/-! ### countSlot -/

@[simp] theorem countSlot_header (s : State) : (countSlot s).header = s.header := rfl
@[simp] theorem countSlot_payload (s : State) : (countSlot s).payload = s.payload := rfl
@[simp] theorem countSlot_parityBit (s : State) : (countSlot s).parityBit = s.parityBit := rfl
@[simp] theorem countSlot_bitCount (s : State) : (countSlot s).bitCount = s.bitCount := rfl
@[simp] theorem countSlot_sent (s : State) : (countSlot s).sent = s.sent := rfl
@[simp] theorem countSlot_incomplete (s : State) : (countSlot s).incomplete = s.incomplete := rfl
@[simp] theorem countSlot_cause (s : State) : (countSlot s).cause = s.cause := rfl
@[simp] theorem countSlot_st (s : State) : (countSlot s).st = s.st := rfl
@[simp] theorem countSlot_counter (s : State) : (countSlot s).counter = s.counter := rfl
@[simp] theorem countSlot_wcnt (s : State) : (countSlot s).wcnt = s.wcnt := rfl
@[simp] theorem countSlot_gcnt (s : State) : (countSlot s).gcnt = s.gcnt := rfl
@[simp] theorem countSlot_ovf (s : State) : (countSlot s).ovf = s.ovf := rfl
@[simp] theorem countSlot_txidx (s : State) : (countSlot s).txidx = s.txidx := rfl
@[simp] theorem countSlot_tcnt (s : State) : (countSlot s).tcnt = s.tcnt + 1 := rfl
@[simp] theorem countSlot_icnt (s : State) : (countSlot s).icnt = s.icnt := rfl
@[simp] theorem countSlot_bcnt (s : State) : (countSlot s).bcnt = s.bcnt := rfl
@[simp] theorem countSlot_lineOutR (s : State) : (countSlot s).lineOutR = s.lineOutR := rfl
@[simp] theorem countSlot_cfg (s : State) : (countSlot s).cfg = s.cfg := rfl
@[simp] theorem countSlot_env (s : State) : (countSlot s).env = s.env := rfl
@[simp] theorem countSlot_tick (s : State) : (countSlot s).tick = s.tick := rfl
@[simp] theorem countSlot_result (s : State) : (countSlot s).result = s.result := rfl

/-! ### endTransmission -/

@[simp] theorem endTransmission_header (s : State) : (endTransmission s).header = s.header := rfl
@[simp] theorem endTransmission_payload (s : State) : (endTransmission s).payload = s.payload := rfl
@[simp] theorem endTransmission_parityBit (s : State) : (endTransmission s).parityBit = s.parityBit := rfl
@[simp] theorem endTransmission_bitCount (s : State) : (endTransmission s).bitCount = s.bitCount := rfl
@[simp] theorem endTransmission_sent (s : State) : (endTransmission s).sent = true := rfl
@[simp] theorem endTransmission_incomplete (s : State) : (endTransmission s).incomplete = s.incomplete := rfl
@[simp] theorem endTransmission_cause (s : State) : (endTransmission s).cause = s.cause := rfl
@[simp] theorem endTransmission_st (s : State) : (endTransmission s).st = .done := rfl
@[simp] theorem endTransmission_counter (s : State) : (endTransmission s).counter = s.counter := rfl
@[simp] theorem endTransmission_wcnt (s : State) : (endTransmission s).wcnt = s.wcnt := rfl
@[simp] theorem endTransmission_gcnt (s : State) : (endTransmission s).gcnt = s.gcnt := rfl
@[simp] theorem endTransmission_ovf (s : State) : (endTransmission s).ovf = s.ovf := rfl
@[simp] theorem endTransmission_txidx (s : State) : (endTransmission s).txidx = s.txidx := rfl
@[simp] theorem endTransmission_tcnt (s : State) : (endTransmission s).tcnt = s.tcnt := rfl
@[simp] theorem endTransmission_icnt (s : State) : (endTransmission s).icnt = s.icnt := rfl
@[simp] theorem endTransmission_bcnt (s : State) : (endTransmission s).bcnt = s.bcnt := rfl
@[simp] theorem endTransmission_lineOutR (s : State) : (endTransmission s).lineOutR = s.lineOutR := rfl
@[simp] theorem endTransmission_cfg (s : State) : (endTransmission s).cfg = s.cfg := rfl
@[simp] theorem endTransmission_env (s : State) : (endTransmission s).env = s.env := rfl
@[simp] theorem endTransmission_tick (s : State) : (endTransmission s).tick = s.tick := rfl
@[simp] theorem endTransmission_result (s : State) : (endTransmission s).result = s.result := rfl

/-! ### handOut -/

@[simp] theorem handOut_header (v : BitVec 32) (s : State) : (handOut v s).header = s.header := rfl
@[simp] theorem handOut_payload (v : BitVec 32) (s : State) : (handOut v s).payload = s.payload := rfl
@[simp] theorem handOut_parityBit (v : BitVec 32) (s : State) : (handOut v s).parityBit = s.parityBit := rfl
@[simp] theorem handOut_bitCount (v : BitVec 32) (s : State) : (handOut v s).bitCount = s.bitCount := rfl
@[simp] theorem handOut_sent (v : BitVec 32) (s : State) : (handOut v s).sent = s.sent := rfl
@[simp] theorem handOut_incomplete (v : BitVec 32) (s : State) : (handOut v s).incomplete = s.incomplete := rfl
@[simp] theorem handOut_cause (v : BitVec 32) (s : State) : (handOut v s).cause = s.cause := rfl
@[simp] theorem handOut_st (v : BitVec 32) (s : State) : (handOut v s).st = s.st := rfl
@[simp] theorem handOut_counter (v : BitVec 32) (s : State) : (handOut v s).counter = s.counter := rfl
@[simp] theorem handOut_wcnt (v : BitVec 32) (s : State) : (handOut v s).wcnt = s.wcnt := rfl
@[simp] theorem handOut_gcnt (v : BitVec 32) (s : State) : (handOut v s).gcnt = s.gcnt := rfl
@[simp] theorem handOut_ovf (v : BitVec 32) (s : State) : (handOut v s).ovf = s.ovf := rfl
@[simp] theorem handOut_txidx (v : BitVec 32) (s : State) : (handOut v s).txidx = s.txidx := rfl
@[simp] theorem handOut_tcnt (v : BitVec 32) (s : State) : (handOut v s).tcnt = s.tcnt := rfl
@[simp] theorem handOut_icnt (v : BitVec 32) (s : State) : (handOut v s).icnt = s.icnt := rfl
@[simp] theorem handOut_bcnt (v : BitVec 32) (s : State) : (handOut v s).bcnt = s.bcnt := rfl
@[simp] theorem handOut_lineOutR (v : BitVec 32) (s : State) : (handOut v s).lineOutR = s.lineOutR := rfl
@[simp] theorem handOut_cfg (v : BitVec 32) (s : State) : (handOut v s).cfg = s.cfg := rfl
@[simp] theorem handOut_env (v : BitVec 32) (s : State) : (handOut v s).env = s.env := rfl
@[simp] theorem handOut_tick (v : BitVec 32) (s : State) : (handOut v s).tick = s.tick := rfl
@[simp] theorem handOut_result (v : BitVec 32) (s : State) : (handOut v s).result = v := rfl

/-! ### afterTick -/

@[simp] theorem afterTick_header (s : State) : (afterTick s).header = s.header := rfl
@[simp] theorem afterTick_payload (s : State) : (afterTick s).payload = s.payload := rfl
@[simp] theorem afterTick_parityBit (s : State) : (afterTick s).parityBit = s.parityBit := rfl
@[simp] theorem afterTick_bitCount (s : State) : (afterTick s).bitCount = s.bitCount := rfl
@[simp] theorem afterTick_sent (s : State) : (afterTick s).sent = s.sent := rfl
@[simp] theorem afterTick_incomplete (s : State) : (afterTick s).incomplete = s.incomplete := rfl
@[simp] theorem afterTick_cause (s : State) : (afterTick s).cause = s.cause := rfl
@[simp] theorem afterTick_st (s : State) : (afterTick s).st = s.st := rfl
@[simp] theorem afterTick_counter (s : State) : (afterTick s).counter = s.counter := rfl
@[simp] theorem afterTick_wcnt (s : State) : (afterTick s).wcnt = s.wcnt := rfl
@[simp] theorem afterTick_gcnt (s : State) : (afterTick s).gcnt = s.gcnt := rfl
@[simp] theorem afterTick_ovf (s : State) : (afterTick s).ovf = s.ovf := rfl
@[simp] theorem afterTick_txidx (s : State) : (afterTick s).txidx = s.txidx := rfl
@[simp] theorem afterTick_tcnt (s : State) : (afterTick s).tcnt = s.tcnt := rfl
@[simp] theorem afterTick_icnt (s : State) : (afterTick s).icnt = s.icnt := rfl
@[simp] theorem afterTick_bcnt (s : State) : (afterTick s).bcnt = s.bcnt := rfl
@[simp] theorem afterTick_lineOutR (s : State) : (afterTick s).lineOutR = s.lineOutR := rfl
@[simp] theorem afterTick_cfg (s : State) : (afterTick s).cfg = s.cfg := rfl
@[simp] theorem afterTick_env (s : State) : (afterTick s).env = s.env.tail := rfl
@[simp] theorem afterTick_tick (s : State) : (afterTick s).tick = s.tick + 1 := rfl
@[simp] theorem afterTick_result (s : State) : (afterTick s).result = s.result := rfl

/-! ### afterLook -/

@[simp] theorem afterLook_header (s : State) : (afterLook s).header = s.header := rfl
@[simp] theorem afterLook_payload (s : State) : (afterLook s).payload = s.payload := rfl
@[simp] theorem afterLook_parityBit (s : State) : (afterLook s).parityBit = s.parityBit := rfl
@[simp] theorem afterLook_bitCount (s : State) : (afterLook s).bitCount = s.bitCount := rfl
@[simp] theorem afterLook_sent (s : State) : (afterLook s).sent = s.sent := rfl
@[simp] theorem afterLook_incomplete (s : State) : (afterLook s).incomplete = s.incomplete := rfl
@[simp] theorem afterLook_cause (s : State) : (afterLook s).cause = s.cause := rfl
@[simp] theorem afterLook_st (s : State) : (afterLook s).st = s.st := rfl
@[simp] theorem afterLook_counter (s : State) : (afterLook s).counter = s.counter := rfl
@[simp] theorem afterLook_wcnt (s : State) : (afterLook s).wcnt = s.wcnt := rfl
@[simp] theorem afterLook_gcnt (s : State) : (afterLook s).gcnt = s.gcnt := rfl
@[simp] theorem afterLook_ovf (s : State) : (afterLook s).ovf = s.ovf := rfl
@[simp] theorem afterLook_txidx (s : State) : (afterLook s).txidx = s.txidx := rfl
@[simp] theorem afterLook_tcnt (s : State) : (afterLook s).tcnt = s.tcnt := rfl
@[simp] theorem afterLook_icnt (s : State) : (afterLook s).icnt = s.icnt := rfl
@[simp] theorem afterLook_bcnt (s : State) : (afterLook s).bcnt = s.bcnt := rfl
@[simp] theorem afterLook_lineOutR (s : State) : (afterLook s).lineOutR = s.lineOutR := rfl
@[simp] theorem afterLook_cfg (s : State) : (afterLook s).cfg = s.cfg := rfl
@[simp] theorem afterLook_env (s : State) : (afterLook s).env = s.env.tail := rfl
@[simp] theorem afterLook_tick (s : State) : (afterLook s).tick = s.tick := rfl
@[simp] theorem afterLook_result (s : State) : (afterLook s).result = s.result := rfl

end Sys2Proof.Machine
end

