-- ==== Sys2Proof/Laws/Ops.lean ====
section
/-! SUPPORT. For each shared operation of Machine/Ops.lean with more than one case, the lemma that says once everything it
can do; for each rule's helper, the registers it leaves. -/

namespace Sys2Proof.Machine

/-! ### Acceptance -/

theorem isBusy_eq_false_iff (s : State) : isBusy s = false ↔ s.st = .idle ∨ s.st = .done := by
  unfold isBusy
  cases s.st <;> decide

theorem isBusy_eq_true_iff (s : State) : isBusy s = true ↔ s.st ≠ .idle ∧ s.st ≠ .done := by
  unfold isBusy
  cases s.st <;> decide

theorem whenAccepting_of_accepting {s : State} (f : State → State) (h : s.st = .idle ∨ s.st = .done) :
    whenAccepting f s = f s := by
  simp [whenAccepting, (isBusy_eq_false_iff s).2 h]

theorem whenAccepting_of_busy {s : State} (f : State → State) (h : isBusy s = true) : whenAccepting f s = s := by
  simp [whenAccepting, h]

/-! ### Frame assembler -/

theorem shiftIn_cases (b : Bool) (s : State) :
    (s.counter.toNat < 8 ∧
      shiftIn b s = { s with header := setBit s.header s.counter.toNat b, counter := s.counter + 1 }) ∨
    (8 ≤ s.counter.toNat ∧ s.counter.toNat < 38 ∧
      shiftIn b s = { s with payload := setBit s.payload (s.counter.toNat - 8) b, counter := s.counter + 1 }) ∨
    (38 ≤ s.counter.toNat ∧ shiftIn b s = { s with ovf := true }) := by
  unfold shiftIn
  split
  · exact .inl ⟨‹_›, rfl⟩
  · split
    · exact .inr (.inl ⟨by omega, ‹_›, rfl⟩)
    · rename_i h
      exact .inr (.inr ⟨by simpa [Config.frameMax] using h, rfl⟩)

theorem endOfFrame_cases (s : State) :
    (s.ovf = true ∧ endOfFrame s = { s with cause := 3, st := .done }) ∨
    (s.ovf = false ∧ s.counter.toNat < 9 ∧ endOfFrame s = { s with cause := 2, st := .done }) ∨
    (s.ovf = false ∧ 9 ≤ s.counter.toNat ∧
      endOfFrame s = completeReception (errorCheck (finalize s))) := by
  unfold endOfFrame
  split
  · exact .inl ⟨‹_›, rfl⟩
  · rename_i h
    have h : s.ovf = false := by simpa using h
    split
    · exact .inr (.inl ⟨h, ‹_›, rfl⟩)
    · exact .inr (.inr ⟨h, by omega, rfl⟩)

/-! ### ErrorCheck -/

/-- ErrorCheck and its cases write only `header`, `payload`, `bitCount` and `incomplete` (R164), and clear no flag. -/
structure RepairOf (s t : State) : Prop where
  frame : t = { s with header := t.header, payload := t.payload, bitCount := t.bitCount, incomplete := t.incomplete }
  incomplete : s.incomplete = true → t.incomplete = true

theorem errorCheckEven_cases (s : State) :
    (s.header = 0 ∧ errorCheckEven s = ecZero s) ∨
    (s.header ≠ 0 ∧ calcParity s ≠ s.parityBit ∧ errorCheckEven s = ecPar s) ∨
    (s.header ≠ 0 ∧ calcParity s = s.parityBit ∧ errorCheckEven s = s) := by
  unfold errorCheckEven
  split
  · exact .inl ⟨‹_›, rfl⟩
  · split
    · rename_i h
      exact .inr (.inl ⟨‹_›, by simpa using h, rfl⟩)
    · rename_i h
      exact .inr (.inr ⟨‹_›, by simpa using h, rfl⟩)

theorem ecOddRest_cases (s : State) :
    (calcParity s ≠ s.parityBit ∧ ecOddRest s = { s with header := s.header + 1 }) ∨
    (calcParity s = s.parityBit ∧ ecOddRest s = errorCheckEven s) := by
  unfold ecOddRest
  split
  · rename_i h
    exact .inl ⟨by simpa using h, rfl⟩
  · rename_i h
    exact .inr ⟨by simpa using h, rfl⟩

theorem errorCheck_cases (s : State) :
    (s.bitCount.toNat % 2 = 0 ∧ errorCheck s = errorCheckEven s) ∨
    (s.bitCount.toNat % 2 = 1 ∧ errorCheck s = ecOddRest (xfer 1 s)) := by
  unfold errorCheck
  split
  · exact .inl ⟨(isEven_iff _).1 ‹_›, rfl⟩
  · rename_i h
    have h := mt (isEven_iff _).2 h
    exact .inr ⟨by omega, rfl⟩

theorem xfer_repairs (k : Nat) (s : State) : RepairOf s (xfer k s) := ⟨rfl, fun _ => rfl⟩

theorem errorCheckEven_repairs (s : State) : RepairOf s (errorCheckEven s) := by
  obtain ⟨-, h⟩ | ⟨-, -, h⟩ | ⟨-, -, h⟩ := errorCheckEven_cases s <;> rw [h]
  · exact ⟨rfl, fun _ => rfl⟩
  · exact ⟨rfl, fun _ => rfl⟩
  · exact ⟨rfl, id⟩

theorem ecOdd_repairs (s : State) : RepairOf s (ecOdd s) ∧ (ecOdd s).incomplete = true := by
  unfold ecOdd
  obtain ⟨-, h⟩ | ⟨-, h⟩ := ecOddRest_cases (xfer 1 s) <;> rw [h]
  · exact ⟨⟨rfl, fun _ => rfl⟩, rfl⟩
  · obtain ⟨hf, hi⟩ := errorCheckEven_repairs (xfer 1 s)
    refine ⟨⟨?_, fun _ => hi rfl⟩, hi rfl⟩
    rw [hf]
    rfl

theorem errorCheck_repairs (s : State) : RepairOf s (errorCheck s) := by
  obtain ⟨-, h⟩ | ⟨-, h⟩ := errorCheck_cases s <;> rw [h]
  · exact errorCheckEven_repairs s
  · exact (ecOdd_repairs s).1

theorem errorCheckEven_same_or_incomplete (s : State) : errorCheckEven s = s ∨ (errorCheckEven s).incomplete = true := by
  obtain ⟨-, h⟩ | ⟨-, -, h⟩ | ⟨-, -, h⟩ := errorCheckEven_cases s <;> rw [h]
  · exact .inr rfl
  · exact .inr rfl
  · exact .inl rfl

/-- A packet that ErrorCheck changed is marked `incomplete` (R152, R153, R160). -/
theorem errorCheck_same_or_incomplete (s : State) : errorCheck s = s ∨ (errorCheck s).incomplete = true := by
  obtain ⟨-, h⟩ | ⟨-, h⟩ := errorCheck_cases s <;> rw [h]
  · exact errorCheckEven_same_or_incomplete s
  · exact .inr (ecOdd_repairs s).2

/-! ### Waits and slots -/

theorem startSilence_cases (s : State) :
    (s.gcnt + 1 = s.cfg.maxLoops ∧ startSilence s = { s with gcnt := s.gcnt + 1, cause := 1, st := .done }) ∨
    (s.gcnt + 1 ≠ s.cfg.maxLoops ∧ startSilence s = { s with gcnt := s.gcnt + 1 }) := by
  unfold startSilence
  split
  · exact .inl ⟨‹_›, rfl⟩
  · exact .inr ⟨‹_›, rfl⟩

theorem gapSilence_cases (s : State) :
    (s.gcnt + 1 = s.cfg.maxLoops ∧ gapSilence s = endOfFrame { s with gcnt := s.gcnt + 1 }) ∨
    (s.gcnt + 1 ≠ s.cfg.maxLoops ∧ gapSilence s = { s with gcnt := s.gcnt + 1 }) := by
  unfold gapSilence
  split
  · exact .inl ⟨‹_›, rfl⟩
  · exact .inr ⟨‹_›, rfl⟩

theorem beginSend_cases (s : State) :
    ((s.cfg.hasTx = false ∨ s.bitCount = 0) ∧ beginSend s = { s with cause := 5, st := .done }) ∨
    (s.cfg.hasTx = true ∧ s.bitCount ≠ 0 ∧ beginSend s = { s with
      cause := 0, icnt := 0, bcnt := 0, txidx := 0, tcnt := 0, lineOutR := false, st := .txWait }) := by
  unfold beginSend
  split
  · exact .inl ⟨‹_›, rfl⟩
  · rename_i h
    rw [not_or] at h
    exact .inr ⟨by simpa using h.1, h.2, rfl⟩

theorem busySample_cases (s : State) :
    (s.bcnt + 1 = s.cfg.maxLoops ∧
      busySample s = { s with icnt := 0, bcnt := s.bcnt + 1, cause := 4, st := .done }) ∨
    (s.bcnt + 1 ≠ s.cfg.maxLoops ∧ busySample s = { s with icnt := 0, bcnt := s.bcnt + 1 }) := by
  unfold busySample
  split
  · exact .inl ⟨‹_›, rfl⟩
  · exact .inr ⟨‹_›, rfl⟩

theorem idleSample_cases (s : State) :
    (s.icnt + 1 = s.cfg.waitLoops ∧ idleSample s = { s with
      bcnt := 0, icnt := s.icnt + 1, txidx := 0, tcnt := 0, lineOutR := true, st := .txActive }) ∨
    (s.icnt + 1 ≠ s.cfg.waitLoops ∧ idleSample s = { s with bcnt := 0, icnt := s.icnt + 1 }) := by
  unfold idleSample
  split
  · exact .inl ⟨‹_›, rfl⟩
  · exact .inr ⟨‹_›, rfl⟩

theorem slotActive_cases (s : State) :
    (s.tcnt + 1 = activeTicks s.cfg (txBit s s.txidx.toNat) ∧
      slotActive s = { s with tcnt := s.tcnt + 1, lineOutR := false, st := .txRest }) ∨
    (s.tcnt + 1 ≠ activeTicks s.cfg (txBit s s.txidx.toNat) ∧ slotActive s = { s with tcnt := s.tcnt + 1 }) := by
  unfold slotActive
  split
  · exact .inl ⟨‹_›, rfl⟩
  · exact .inr ⟨‹_›, rfl⟩

theorem slotRest_cases (s : State) :
    (s.tcnt + 1 = s.cfg.slotTicks ∧ s.txidx.toNat = s.bitCount.toNat + 9 ∧
      slotRest s = { s with tcnt := s.tcnt + 1, sent := true, st := .done }) ∨
    (s.tcnt + 1 = s.cfg.slotTicks ∧ s.txidx.toNat ≠ s.bitCount.toNat + 9 ∧
      slotRest s = { s with txidx := s.txidx + 1, tcnt := 0, lineOutR := true, st := .txActive }) ∨
    (s.tcnt + 1 ≠ s.cfg.slotTicks ∧ slotRest s = { s with tcnt := s.tcnt + 1 }) := by
  unfold slotRest
  split
  · split
    · exact .inl ⟨‹_›, ‹_›, rfl⟩
    · exact .inr (.inl ⟨‹_›, ‹_›, rfl⟩)
  · exact .inr (.inr ⟨‹_›, rfl⟩)

end Sys2Proof.Machine
end

