-- ==== Sys2Proof/Laws/PerInstr.lean ====
section
/-! SUPPORT. Lemmas per operation: the family TableFormat, that the encoder writes each operation in the format the opcode
table gives its row. -/

namespace Sys2Proof.Laws.TableFormat

/-- The column "format" of spec/opcode_table.json. -/
inductive Format where
  | cmd
  | wire
  | internal
  | errorCheck
  | port
  | tx
  | wireFrame
  | wireSymbol
  deriving DecidableEq, Repr

/-- The format the table gives the row of an operation. -/
def formatOf (i : Instr) : Format :=
  match i with
  | .nop | .read | .set _ | .send | .setsend _ => .cmd
  | .start | .startTimeout | .startEnd | .pulseBegin | .sym0 | .sym1 | .eof => .wire
  | .shiftIn _ | .finalize | .runt | .overrun | .calcParity => .internal
  | .ecOk | .ecZero | .ecPar | .ecOdd | .ecOddFix | .ecOddChain => .errorCheck
  | .priority | .address | .byte _ | .bitrange _ _ | .unique | .sent | .incomplete => .port
  | .txIdleOk | .txAbort | .sendbit _ | .txEnd => .tx
  | .frame _ _ _ _ => .wireFrame
  | .symbol _ => .wireSymbol

/-- The format of a selector: state codes 6 and above are the transmitter's (R28). -/
def selectorFormat (w : Selector) : Format :=
  match w with
  | .command _ _ => .cmd
  | .lineEvent code _ => if code.toNat < 12 then .wire else .tx
  | .port _ => .port
  | .pulses _ => .wireFrame
  | .pulse _ => .wireSymbol

/-- The rows of the two formats that carry `null` have no selector (R88); every other row has one of its own format. -/
def Statement (i : Instr) : Prop :=
  (encode i).map selectorFormat =
    if formatOf i = .internal ∨ formatOf i = .errorCheck then none else some (formatOf i)

theorem nop : Statement .nop := rfl
theorem read : Statement .read := rfl
theorem set (arg : UniqueWord) : Statement (.set arg) := rfl
theorem send : Statement .send := rfl
theorem setsend (arg : UniqueWord) : Statement (.setsend arg) := rfl
theorem start : Statement .start := rfl
theorem startTimeout : Statement .startTimeout := rfl
theorem startEnd : Statement .startEnd := rfl
theorem pulseBegin : Statement .pulseBegin := rfl
theorem sym0 : Statement .sym0 := rfl
theorem sym1 : Statement .sym1 := rfl
theorem eof : Statement .eof := rfl
theorem shiftIn (b : Bool) : Statement (.shiftIn b) := rfl
theorem finalize : Statement .finalize := rfl
theorem runt : Statement .runt := rfl
theorem overrun : Statement .overrun := rfl
theorem calcParity : Statement .calcParity := rfl
theorem ecOk : Statement .ecOk := rfl
theorem ecZero : Statement .ecZero := rfl
theorem ecPar : Statement .ecPar := rfl
theorem ecOdd : Statement .ecOdd := rfl
theorem ecOddFix : Statement .ecOddFix := rfl
theorem ecOddChain : Statement .ecOddChain := rfl
theorem priority : Statement .priority := rfl
theorem address : Statement .address := rfl
theorem byte (sel : BitVec 2) : Statement (.byte sel) := rfl
theorem bitrange (first last : BitVec 5) : Statement (.bitrange first last) := rfl
theorem unique : Statement .unique := rfl
theorem sent : Statement .sent := rfl
theorem incomplete : Statement .incomplete := rfl
theorem txIdleOk : Statement .txIdleOk := rfl
theorem txAbort : Statement .txAbort := rfl
theorem sendbit (part : SlotPart) : Statement (.sendbit part) := by
  cases part <;> rfl
theorem txEnd : Statement .txEnd := rfl
theorem frame (priority : BitVec 2) (address : BitVec 6) (payload : List Bool) (parity : Bool) :
    Statement (.frame priority address payload parity) := rfl
theorem symbol (width : Nat) : Statement (.symbol width) := rfl

end Sys2Proof.Laws.TableFormat
end

