-- ==== Sys2Proof/Laws/Step.lean ====
section
/-! SUPPORT. What a step can do, once: the table of R113 as a function, and the step as that function. -/

namespace Sys2Proof.Machine

/-! ### What a tick selects -/

/-- The operation a wire or transmit selector names, by state, sample and further condition (R88). -/
def selected (f : Fsm) (a limit : Bool) : Except Reject Instr :=
  match f with
  | .idle | .done => .ok .nop
  | .awaitStart => if a then .ok .start else if limit then .ok .startTimeout else .error .countingTick
  | .startPulse => if a then .error .countingTick else .ok .startEnd
  | .gap => if a then .ok .pulseBegin else if limit then .ok .eof else .error .countingTick
  | .pulse => if a then .error .countingTick else .ok (if limit then .sym1 else .sym0)
  | .txWait => if limit then .ok (if a then .txAbort else .txIdleOk) else .error .countingTick
  | .txActive => .ok (.sendbit .active)
  | .txRest => .ok (if limit then .txEnd else .sendbit .rest)

theorem decodeLine_lineCode (f : Fsm) (a limit : Bool) : decodeLine (lineCode f a) limit = selected f a limit := by
  cases f <;> cases a <;> cases limit <;> decide

theorem decode_tick_command {s : State} {inp : TickInput} (h : s.st = .idle ∨ s.st = .done)
    (hv : inp.cmdValid = true) : decode (tickSelector inp s) = .ok (decodeCommand inp.cmd inp.arg) := by
  simp [tickSelector, (isBusy_eq_false_iff s).2 h, hv, decode]

theorem decode_tick_busy {s : State} {inp : TickInput} (h : isBusy s = true) :
    decode (tickSelector inp s) = selected s.st (sampleOf s.cfg inp) (atLimit (sampleOf s.cfg inp) s) := by
  simp [tickSelector, h, decode, decodeLine_lineCode]

theorem decode_tick_quiet {s : State} {inp : TickInput} (h : s.st = .idle ∨ s.st = .done)
    (hv : inp.cmdValid = false) : decode (tickSelector inp s) = .ok .nop := by
  rcases h with h | h <;> simp [tickSelector, hv, decode, decodeLine_lineCode, h, selected]

/-! ### What a tick does -/

/-- What an accepted command does to the registers (R101, R201, R207, R214). -/
def commandTick (cmd : CmdCode) (arg : UniqueWord) (s : State) : State :=
  match cmd.toNat with
  | 1 => { initPacket s with st := .awaitStart }
  | 2 => { loadPacket arg s with st := .done }
  | 3 => beginSend s
  | 4 => beginSend (loadPacket arg s)
  | _ => s

/-- What a sample does to the registers where no command is accepted (R113, R208 to R211). -/
def sampleTick (a : Bool) (s : State) : State :=
  match s.st with
  | .idle | .done => s
  | .awaitStart => if a then beginPulse .startPulse s else startSilence s
  | .startPulse => if a then countWidth s else beginGap s
  | .gap => if a then beginPulse .pulse s else gapSilence s
  | .pulse => if a then countWidth s else endPulse (classify s.cfg s.wcnt) s
  | .txWait => if a then busySample s else idleSample s
  | .txActive => slotActive s
  | .txRest => slotRest s

/-- What one tick does to the registers. -/
def registersAfter (inp : TickInput) (s : State) : State :=
  if inp.rst then resetRegisters s
  else if inp.cmdValid && !isBusy s then commandTick inp.cmd inp.arg s
  else sampleTick (sampleOf s.cfg inp) s

theorem runTick_command {s : State} {inp : TickInput} (h : s.st = .idle ∨ s.st = .done) (hv : inp.cmdValid = true) :
    runTick inp s = .next (afterTick (commandTick inp.cmd inp.arg s)) := by
  have codes : ∀ c : CmdCode, c = 0 ∨ c = 1 ∨ c = 2 ∨ c = 3 ∨ c = 4 ∨ c = 5 ∨ c = 6 ∨ c = 7 := by decide
  simp only [runTick, decode_tick_command h hv]
  rcases codes inp.cmd with hc | hc | hc | hc | hc | hc | hc | hc <;> rw [hc] <;>
    simp [decodeCommand, commandTick, exec, execRead, execSet, execSend, execSetsend, execNop,
      whenAccepting_of_accepting _ h, onNext]

theorem runTick_quiet {s : State} {inp : TickInput} (h : s.st = .idle ∨ s.st = .done) (hv : inp.cmdValid = false) :
    runTick inp s = .next (afterTick s) := by
  simp only [runTick, decode_tick_quiet h hv, exec, execNop, onNext]

theorem runTick_busy {s : State} {inp : TickInput} (h : isBusy s = true) :
    runTick inp s = .next (afterTick (sampleTick (sampleOf s.cfg inp) s)) := by
  simp only [runTick, decode_tick_busy h, sampleTick]
  generalize sampleOf s.cfg inp = a
  have hb := (isBusy_eq_true_iff s).1 h
  rcases hs : s.st <;> simp only [selected, atLimit, countingTick, hs]
  · exact absurd hs hb.1
  · cases a
    · by_cases hg : s.gcnt + 1 = s.cfg.maxLoops <;> simp [hg, exec, execStartTimeout, onNext]
    · rfl
  · cases a <;> rfl
  · cases a
    · by_cases hg : s.gcnt + 1 = s.cfg.maxLoops <;> simp [hg, exec, execEof, onNext]
    · rfl
  · cases a
    · by_cases hg : classify s.cfg s.wcnt = true <;> simp [hg, exec, execSym0, execSym1, onNext]
    · rfl
  · exact absurd hs hb.2
  · cases a
    · by_cases hg : s.icnt + 1 = s.cfg.waitLoops <;> simp [hg, exec, execTxIdleOk, onNext]
    · by_cases hg : s.bcnt + 1 = s.cfg.maxLoops <;> simp [hg, exec, execTxAbort, onNext]
  · rfl
  · by_cases h1 : s.tcnt + 1 = s.cfg.slotTicks
    · by_cases h2 : s.txidx.toNat = s.bitCount.toNat + 9 <;>
        simp [h1, h2, exec, execTxEnd, execSendbit, onNext, slotRest]
    · simp [h1, exec, execSendbit, onNext, slotRest]

/-- Every tick, whole. -/
theorem step_tick {s : State} {inp : TickInput} (h : actionOf s = .tick inp) :
    step s = .next (afterTick (registersAfter inp s)) := by
  simp only [step, h, actionStep, tickStep, registersAfter]
  split
  · rfl
  · cases hb : isBusy s
    · have hs := (isBusy_eq_false_iff s).1 hb
      cases hv : inp.cmdValid
      · rw [runTick_quiet hs hv]
        rcases hs with hs | hs <;> simp [sampleTick, hs]
      · rw [runTick_command hs hv]
        simp
    · rw [runTick_busy hb]
      simp

/-! ### What no tick touches -/

/-- The two states agree on the model's own fields. -/
structure SameOwn (s t : State) : Prop where
  cfg : t.cfg = s.cfg
  env : t.env = s.env
  tick : t.tick = s.tick
  result : t.result = s.result

theorem RepairOf.sameOwn {s t : State} (h : RepairOf s t) : SameOwn s t := by
  rw [h.frame]
  exact ⟨rfl, rfl, rfl, rfl⟩

theorem endOfFrame_sameOwn (s : State) : SameOwn s (endOfFrame s) := by
  obtain ⟨-, h⟩ | ⟨-, -, h⟩ | ⟨-, -, h⟩ := endOfFrame_cases s <;> rw [h]
  · exact ⟨rfl, rfl, rfl, rfl⟩
  · exact ⟨rfl, rfl, rfl, rfl⟩
  · obtain ⟨h1, h2, h3, h4⟩ := (errorCheck_repairs (finalize s)).sameOwn
    exact ⟨h1, h2, h3, h4⟩

theorem beginSend_sameOwn (s : State) : SameOwn s (beginSend s) := by
  obtain ⟨-, h⟩ | ⟨-, -, h⟩ := beginSend_cases s <;> rw [h] <;> exact ⟨rfl, rfl, rfl, rfl⟩

theorem commandTick_sameOwn (cmd : CmdCode) (arg : UniqueWord) (s : State) : SameOwn s (commandTick cmd arg s) := by
  unfold commandTick
  split
  · exact ⟨rfl, rfl, rfl, rfl⟩
  · exact ⟨rfl, rfl, rfl, rfl⟩
  · exact beginSend_sameOwn s
  · obtain ⟨h1, h2, h3, h4⟩ := beginSend_sameOwn (loadPacket arg s)
    exact ⟨h1, h2, h3, h4⟩
  · exact ⟨rfl, rfl, rfl, rfl⟩

theorem endPulse_sameOwn (b : Bool) (s : State) : SameOwn s (endPulse b s) := by
  unfold endPulse
  obtain ⟨-, h⟩ | ⟨-, -, h⟩ | ⟨-, h⟩ := shiftIn_cases b s <;> rw [h] <;> exact ⟨rfl, rfl, rfl, rfl⟩

theorem sampleTick_sameOwn (a : Bool) (s : State) : SameOwn s (sampleTick a s) := by
  unfold sampleTick
  split
  · exact ⟨rfl, rfl, rfl, rfl⟩
  · exact ⟨rfl, rfl, rfl, rfl⟩
  · obtain ⟨-, h⟩ | ⟨-, h⟩ := startSilence_cases s <;> cases a <;> simp only [h] <;> exact ⟨rfl, rfl, rfl, rfl⟩
  · cases a <;> exact ⟨rfl, rfl, rfl, rfl⟩
  · cases a
    · obtain ⟨-, h⟩ | ⟨-, h⟩ := gapSilence_cases s <;> simp only [h]
      · obtain ⟨h1, h2, h3, h4⟩ := endOfFrame_sameOwn { s with gcnt := s.gcnt + 1 }
        exact ⟨h1, h2, h3, h4⟩
      · exact ⟨rfl, rfl, rfl, rfl⟩
    · exact ⟨rfl, rfl, rfl, rfl⟩
  · cases a
    · exact endPulse_sameOwn _ s
    · exact ⟨rfl, rfl, rfl, rfl⟩
  · cases a
    · obtain ⟨-, h⟩ | ⟨-, h⟩ := idleSample_cases s <;> simp only [h] <;> exact ⟨rfl, rfl, rfl, rfl⟩
    · obtain ⟨-, h⟩ | ⟨-, h⟩ := busySample_cases s <;> simp only [h] <;> exact ⟨rfl, rfl, rfl, rfl⟩
  · obtain ⟨-, h⟩ | ⟨-, h⟩ := slotActive_cases s <;> rw [h] <;> exact ⟨rfl, rfl, rfl, rfl⟩
  · obtain ⟨-, -, h⟩ | ⟨-, -, h⟩ | ⟨-, h⟩ := slotRest_cases s <;> rw [h] <;> exact ⟨rfl, rfl, rfl, rfl⟩

/-- No tick touches the model's own fields but for passing (`afterTick`). -/
theorem registersAfter_sameOwn (inp : TickInput) (s : State) : SameOwn s (registersAfter inp s) := by
  unfold registersAfter
  split
  · exact ⟨rfl, rfl, rfl, rfl⟩
  · split
    · exact commandTick_sameOwn ..
    · exact sampleTick_sameOwn ..

/-! ### Runs -/

theorem runSteps_zero (s : State) : runSteps 0 s = .next s := rfl

theorem host_run_next (M : Host.Core) (n : Nat) (s t : M.State) (h : M.step s = .next t) :
    M.run (n + 1) s = M.run n t := by
  simp only [Host.Core.run, h]

theorem host_run_fault (M : Host.Core) (n : Nat) (s : M.State) (r : M.Fault) (h : M.step s = .fault r) :
    M.run (n + 1) s = .fault r := by
  simp only [Host.Core.run, h]

theorem host_run_refused (M : Host.Core) (n : Nat) (s : M.State) (r : M.Refusal) (h : M.step s = .refused r) :
    M.run (n + 1) s = .refused r := by
  simp only [Host.Core.run, h]

/-- The model's own run is the host's run of `Sys2Proof.core`. -/
theorem runSteps_eq_run (n : Nat) (s : State) : runSteps n s = Host.Core.run Sys2Proof.core n s := by
  induction n generalizing s with
  | zero => rfl
  | succ n ih =>
    rw [runSteps]
    cases h : step s with
    | next t => exact (ih t).trans (host_run_next Sys2Proof.core n s t h).symm
    | fault r => exact (host_run_fault Sys2Proof.core n s r h).symm
    | refused r => exact (host_run_refused Sys2Proof.core n s r h).symm

theorem runSteps_succ {s t : State} (n : Nat) (h : step s = .next t) : runSteps (n + 1) s = runSteps n t := by
  rw [runSteps, h]

/-- The first of the ticks ahead is the next step, and the others are ahead after it. -/
theorem TicksAhead.step {inp : TickInput} {ins : List TickInput} {s : State} (h : TicksAhead (inp :: ins) s) :
    inp.rst = false ∧ Machine.step s = .next (afterTick (registersAfter inp s)) ∧
      TicksAhead ins (afterTick (registersAfter inp s)) := by
  obtain ⟨h1, more, he⟩ := h
  have ha : actionOf s = .tick inp := by simp [actionOf, he]
  refine ⟨h1 inp (by simp), step_tick ha, fun i hi => h1 i (by simp [hi]), more, ?_⟩
  simp [afterTick, (registersAfter_sameOwn inp s).env, he]

end Sys2Proof.Machine
end

