-- ==== Sys2Proof/Tests/Slice0.lean ====
section
/-! SUPPORT. The author's tests: the well-formedness smoke, words decoded, one step from the spec's vectors
(95_test_vectors.md, rows named in the comments), and for each statement with hypotheses a witness that meets them. -/

namespace Sys2Proof.Tests

open Sys2Proof.Machine

/-! ### Helpers -/

/-- The outcome is a next state with the property. -/
def answers (o : Host.Outcome State Fault Refusal) (p : State → Bool) : Bool :=
  match o with
  | .next s => p s
  | .fault _ => false
  | .refused _ => false

/-- The outcome is this fault. -/
def faultsWith (o : Host.Outcome State Fault Refusal) (f : Fault) : Bool :=
  match o with
  | .next _ => false
  | .fault r => r == f
  | .refused _ => false

/-- A packet `(header, payload, bitCount, parityBit)` in `DONE`, configuration `REF1M`. -/
def packet (h : Header) (p : Payload) (n : Count6) (q : Bool) : State :=
  { State.reset with header := h, payload := p, bitCount := n, parityBit := q, st := .done }

/-- The packet registers of a state, with `incomplete`. -/
def shows (h : Header) (p : Payload) (n : Count6) (q i : Bool) (s : State) : Bool :=
  s.header == h && s.payload == p && s.bitCount == n && s.parityBit == q && s.incomplete == i

/-- The state with one tick ahead: sample `a`, no command. -/
def sampled (a : Bool) (s : State) : State :=
  { s with env := [.tick (quietTick s.cfg a)] }

/-- Tick inputs that offer a command. -/
def offer (cmd : CmdCode) (arg : UniqueWord) : TickInput :=
  { quietTick Config.ref1m false with cmdValid := true, cmd := cmd, arg := arg }

/-- The state with one tick ahead that offers a command. -/
def offered (cmd : CmdCode) (arg : UniqueWord) (s : State) : State :=
  { s with env := [.tick (offer cmd arg)] }

/-- A configuration small enough for whole runs; it meets R265. -/
def tiny : Config.Params where
  fTick := 1
  activeLevel := false
  threshTicks := 2
  maxLoops := 3
  waitLoops := 2
  t0Ticks := 1
  t1Ticks := 2
  slotTicks := 3
  wcntMax := 2
  hasTx := true

/-- The state after reset under the small configuration. -/
def tinyReset : State :=
  { State.reset with cfg := tiny }

/-- Ticks with these samples under the small configuration, no command. -/
def tinyTicks (samples : List Bool) : List TickInput :=
  samples.map (quietTick tiny)

/-- The state with these ticks ahead. -/
def ahead (ins : List TickInput) (s : State) : State :=
  { s with env := ins.map EnvAction.tick }

/-! ### Configuration, well-formedness -/

/-- R9: `REF1M` meets R265, and its tick figures are those of the source. -/
theorem test_ref1m_valid : Config.ref1m.Valid ∧ Config.ref1m.FollowsFigures ∧ tiny.Valid := by decide

/-- R265: each constraint, broken. -/
theorem test_invalid_configurations :
    ¬ ({ Config.ref1m with t0Ticks := 0 }).Valid ∧ ¬ ({ Config.ref1m with t0Ticks := 500 }).Valid ∧
    ¬ ({ Config.ref1m with t1Ticks := 499 }).Valid ∧ ¬ ({ Config.ref1m with slotTicks := 667 }).Valid ∧
    ¬ ({ Config.ref1m with maxLoops := 889 }).Valid ∧ ¬ ({ Config.ref1m with waitLoops := 0 }).Valid ∧
    ¬ ({ Config.ref1m with wcntMax := 499 }).Valid := by decide

/-- R76: 29 payload bits fit in `FRAME_MAX`, 30 do not. -/
theorem test_wf_frame_length :
    Instr.wellFormed (.frame 1 5 (List.replicate 29 true) true) = true ∧
    Instr.wellFormed (.frame 1 5 (List.replicate 30 true) true) = false := by decide

/-- R70: a pulse has at least one sample. -/
theorem test_wf_symbol_width : Instr.wellFormed (.symbol 1) = true ∧ Instr.wellFormed (.symbol 0) = false := by decide

/-! ### Decode: words written out from R84, R28 with R88, R75, R70 -/

theorem test_decode_commands :
    decode (.command 0b000 7) = .ok .nop ∧ decode (.command 0b001 7) = .ok .read ∧
    decode (.command 0b010 7) = .ok (.set 7) ∧ decode (.command 0b011 7) = .ok .send ∧
    decode (.command 0b100 7) = .ok (.setsend 7) := by decide

/-- R86: the reserved codes. -/
theorem test_decode_reserved_commands :
    decode (.command 0b101 7) = .ok .nop ∧ decode (.command 0b110 7) = .ok .nop ∧
    decode (.command 0b111 7) = .ok .nop := by decide

theorem test_decode_wire_events :
    decode (.lineEvent 0b00011 false) = .ok .start ∧ decode (.lineEvent 0b00010 true) = .ok .startTimeout ∧
    decode (.lineEvent 0b00100 false) = .ok .startEnd ∧ decode (.lineEvent 0b00111 false) = .ok .pulseBegin ∧
    decode (.lineEvent 0b01000 false) = .ok .sym0 ∧ decode (.lineEvent 0b01000 true) = .ok .sym1 ∧
    decode (.lineEvent 0b00110 true) = .ok .eof := by decide

theorem test_decode_transmit_events :
    decode (.lineEvent 0b01100 true) = .ok .txIdleOk ∧ decode (.lineEvent 0b01101 true) = .ok .txAbort ∧
    decode (.lineEvent 0b01110 false) = .ok (.sendbit .active) ∧
    decode (.lineEvent 0b01111 false) = .ok (.sendbit .active) ∧
    decode (.lineEvent 0b10000 false) = .ok (.sendbit .rest) ∧
    decode (.lineEvent 0b10001 false) = .ok (.sendbit .rest) ∧
    decode (.lineEvent 0b10000 true) = .ok .txEnd ∧ decode (.lineEvent 0b10001 true) = .ok .txEnd := by decide

/-- R113: the ticks that only count; R28: a code never taken. -/
theorem test_decode_rejects :
    decode (.lineEvent 0b00010 false) = .error .countingTick ∧ decode (.lineEvent 0b00101 true) = .error .countingTick ∧
    decode (.lineEvent 0b00110 false) = .error .countingTick ∧ decode (.lineEvent 0b01001 false) = .error .countingTick ∧
    decode (.lineEvent 0b01100 false) = .error .countingTick ∧ decode (.lineEvent 0b01101 false) = .error .countingTick ∧
    decode (.lineEvent 0b10010 false) = .error .unusedStateCode ∧
    decode (.lineEvent 0b11111 true) = .error .unusedStateCode ∧
    decode (.pulses (List.replicate 9 true)) = .error .shortFrame ∧
    decode (.pulses (List.replicate 40 true)) = .error .longFrame ∧ decode (.pulse 0) = .error .emptyPulse := by decide

theorem test_decode_ports :
    decode (.port .priority) = .ok .priority ∧ decode (.port .address) = .ok .address ∧
    decode (.port (.byte 2)) = .ok (.byte 2) ∧ decode (.port (.bitrange 1 3)) = .ok (.bitrange 1 3) ∧
    decode (.port .unique) = .ok .unique ∧ decode (.port .sent) = .ok .sent ∧
    decode (.port .incomplete) = .ok .incomplete := by decide

/-- P7: the pulses of the source's one worked example, and R70's symbol. -/
theorem test_decode_formats :
    decode (.pulses ([true] ++ [true, false] ++ [true, false, true, false, false, false] ++
      [false, true, false, true, false, true, false, true] ++ [true])) =
      .ok (.frame 1 5 [false, true, false, true, false, true, false, true] true) ∧
    decode (.pulse 111) = .ok (.symbol 111) := by decide

/-- R88: the rows with `null` have no selector. -/
theorem test_encode_internal :
    encode (.shiftIn true) = none ∧ encode .finalize = none ∧ encode .runt = none ∧ encode .overrun = none ∧
    encode .calcParity = none ∧ encode .ecOk = none ∧ encode .ecZero = none ∧ encode .ecPar = none ∧
    encode .ecOdd = none ∧ encode .ecOddFix = none ∧ encode .ecOddChain = none := by decide

/-- Words of the opcode table as the host numbers them (log 4). -/
theorem test_table_words :
    decodeTableWord 8 0 = some .nop ∧ decodeTableWord 8 1 = some .read ∧ decodeTableWord 8 4 = some (.setsend 0) ∧
    decodeTableWord 8 7 = some .pulseBegin ∧ decodeTableWord 8 8 = some .sym0 ∧ decodeTableWord 8 6 = some .eof ∧
    decodeTableWord 8 12 = some .txIdleOk ∧ decodeTableWord 8 13 = some .txAbort ∧
    decodeTableWord 8 14 = some (.sendbit .active) ∧ decodeTableWord 8 16 = some .txEnd ∧
    decodeTableWord 32 0 = some .unique ∧ decodeTableWord 8 18 = none ∧ decodeTableWord 8 32 = none := by decide

/-- The placed word runs at the very next step: `EOF` of an empty reception (A6), `TX_END`, `UNIQUE`. -/
theorem test_placed_words_run :
    answers (step (State.reset.withFetchWord 8 6)) (fun t => t.cause == 2 && t.st == .done && t.gcnt == 2000) = true ∧
    answers (step (State.reset.withFetchWord 8 16)) (fun t => t.sent && t.st == .done && t.tcnt == 1000) = true ∧
    answers (step (State.reset.withFetchWord 32 0)) (fun t => t.result == 0 && t.env == []) = true := by decide

/-! ### Commands -/

/-- R112's example: a tick without a command in `DONE` changes no register, whatever the line does. -/
theorem test_nop_keeps : step (sampled true (packet 0x15 0xAA 8 true)) =
    .next { packet 0x15 0xAA 8 true with tick := 1 } := rfl

/-- R101's example. -/
theorem test_read_example : answers (step (offered 1 0 (packet 0x15 0xAA 8 true)))
    (fun t => shows 0 0 0 false false t && t.st == .awaitStart && t.tick == 1) = true := by decide

/-- Z4: a command in a busy state is dropped and the reception goes on. -/
theorem test_read_ignored_in_gap : answers (step (offered 1 0 { State.reset with st := .gap, gcnt := 5, counter := 3 }))
    (fun t => t.st == .gap && t.gcnt == 6 && t.counter == 3) = true := by decide

/-- S2: `SET 0x0000AA15`. -/
theorem test_set_S2 : answers (step (offered 2 0x0000AA15 State.reset))
    (fun t => shows 0x15 0xAA 8 true false t && t.st == .done && statusWord t == 0x0814) = true := by decide

/-- S7: `SET 0x80000000`. -/
theorem test_set_S7 : answers (exec (.set 0x80000000) State.reset)
    (fun t => shows 0x00 0x800000 24 true false t && !t.sent) = true := by decide

/-- R207's example. -/
theorem test_send_begins : answers (step (offered 3 0 (packet 0x15 0xAA 8 true)))
    (fun t => t.st == .txWait && statusWord t == 0x080C) = true := by decide

/-- X7: `SEND` straight after reset is skipped. -/
theorem test_send_X7 : answers (step (offered 3 0 State.reset))
    (fun t => t.cause == 5 && t.st == .done && statusWord t == 0x00B0) = true := by decide

/-- R214's example. -/
theorem test_setsend_example : answers (step (offered 4 0x0000AA15 State.reset))
    (fun t => shows 0x15 0xAA 8 true false t && t.st == .txWait) = true := by decide

/-- R214 without a transmitter: loaded all the same. -/
theorem test_setsend_without_tx :
    answers (exec (.setsend 0x0000AA15) { State.reset with cfg := { Config.ref1m with hasTx := false } })
      (fun t => shows 0x15 0xAA 8 true false t && t.cause == 5 && t.st == .done) = true := by decide

/-- Z3: reset wins over a command. -/
theorem test_reset_Z3 :
    answers (step { packet 0x15 0xAA 8 true with st := .pulse, counter := 12, env := [.tick { offer 1 0 with rst := true }] })
      (fun t => statusWord t == 0 && t.st == .idle && t.counter == 0 && t.header == 0 && t.payload == 0) = true := by decide

/-! ### Wire events -/

/-- R102's example. -/
theorem test_start_example : answers (step (sampled true { State.reset with st := .awaitStart, gcnt := 40 }))
    (fun t => t.st == .startPulse && t.wcnt == 1 && t.gcnt == 40) = true := by decide

/-- L1 and L2: the 1999th and the 2000th silent sample. -/
theorem test_start_timeout_L1_L2 :
    answers (step (sampled false { State.reset with st := .awaitStart, gcnt := 1999 }))
      (fun t => statusWord t == 0x0030 && t.gcnt == 2000) = true ∧
    answers (step (sampled false { State.reset with st := .awaitStart, gcnt := 1998 }))
      (fun t => t.st == .awaitStart && t.gcnt == 1999) = true := by decide

/-- R105's example. -/
theorem test_start_end_example : answers (step (sampled false { State.reset with st := .startPulse, wcnt := 667 }))
    (fun t => t.st == .gap && t.gcnt == 1 && t.counter == 0) = true := by decide

/-- R106's example. -/
theorem test_pulse_begin_example : answers (step (sampled true { State.reset with st := .gap, gcnt := 333 }))
    (fun t => t.st == .pulse && t.wcnt == 1) = true := by decide

/-- R109's example: the width saturates at `WCNT_MAX`. -/
theorem test_width_saturates : answers (step (sampled true { State.reset with st := .pulse, wcnt := 1023 }))
    (fun t => t.st == .pulse && t.wcnt == 1023) = true := by decide

/-- R110's example, and the last width below the threshold. -/
theorem test_sym0 :
    answers (step (sampled false { State.reset with st := .pulse, wcnt := 111 }))
      (fun t => t.header == 0 && t.counter == 1 && t.st == .gap && t.gcnt == 1) = true ∧
    answers (step (sampled false { State.reset with st := .pulse, wcnt := 499, counter := 8 }))
      (fun t => t.payload == 0 && t.counter == 9) = true := by decide

/-- R108: exactly the threshold is a 1. -/
theorem test_sym1 : answers (step (sampled false { State.reset with st := .pulse, wcnt := 500, counter := 8 }))
    (fun t => t.payload == 1 && t.counter == 9 && t.st == .gap) = true := by decide

/-- A8 and A10: a runt of 8 bits, an overlong frame. -/
theorem test_eof_outcomes :
    answers (step (sampled false { State.reset with st := .gap, gcnt := 1999, counter := 8, header := 0x15 }))
      (fun t => t.cause == 2 && t.header == 0x15 && t.st == .done && !t.sent) = true ∧
    answers (step (sampled false { State.reset with
        st := .gap, gcnt := 1999, counter := 38, header := 0xFF, payload := 0x3FFFFFFF, ovf := true }))
      (fun t => statusWord t == 0x0070 && t.payload == 0x3FFFFFFF) = true := by decide

/-- A1 with E1: a clean reception. -/
theorem test_eof_clean : answers (step (sampled false { State.reset with
    st := .gap, gcnt := 1999, counter := 17, header := 0x15, payload := 0x1AA }))
      (fun t => shows 0x15 0xAA 8 true false t && statusWord t == 0x0815) = true := by decide

/-! ### Internal operations -/

/-- R131's examples. -/
theorem test_shift_in_examples :
    answers (exec (.shiftIn true) { State.reset with counter := 8 }) (fun t => t.payload == 1 && t.counter == 9) = true ∧
    answers (exec (.shiftIn true) { State.reset with counter := 38 })
      (fun t => t.ovf && t.counter == 38 && t.payload == 0) = true := by decide

/-- R50: the first bits fill the header from its least significant bit. -/
theorem test_shift_in_header : answers (exec (.shiftIn true) { State.reset with counter := 7, header := 0x05 })
    (fun t => t.header == 0x85 && t.counter == 8) = true := by decide

/-- A1 and A4. -/
theorem test_finalize_A1_A4 :
    answers (exec .finalize { State.reset with counter := 17, header := 0x15, payload := 0x1AA })
      (shows 0x15 0xAA 8 true false) = true ∧
    answers (exec .finalize { State.reset with counter := 38, header := 0xFF, payload := 0x3FFFFFFF })
      (shows 0xFF 0x1FFFFFFF 29 true false) = true := by decide

/-- R135: below 9 bits the formula has no meaning (log 8). -/
theorem test_finalize_below_nine :
    faultsWith (exec .finalize { State.reset with counter := 8 }) .finalizeBelowNine = true := by decide

/-- R135's example. -/
theorem test_runt_example : answers (exec .runt { State.reset with st := .gap, counter := 5, header := 0x13 })
    (fun t => t.cause == 2 && t.header == 0x13 && t.counter == 5 && t.st == .done) = true := by decide

theorem test_overrun : answers (exec .overrun { State.reset with st := .gap, counter := 38, ovf := true })
    (fun t => t.cause == 3 && t.ovf && t.st == .done && !t.sent) = true := by decide

/-- Section 3.3: bit 8 is outside a run of 8. -/
theorem test_calc_parity :
    answers (exec .calcParity (packet 0x15 0x1AA 8 true)) (fun t => t.result == 1) = true ∧
    answers (exec .calcParity (packet 0x15 0x1AA 10 true)) (fun t => t.result == 0) = true := by decide

/-! ### ErrorCheck -/

/-- E1. -/
theorem test_ec_ok_E1 : answers (exec .ecOk (packet 0x15 0xAA 8 true)) (shows 0x15 0xAA 8 true false) = true ∧
    shows 0x15 0xAA 8 true false (errorCheck (packet 0x15 0xAA 8 true)) = true := by decide

/-- E3. -/
theorem test_ec_zero_E3 : answers (exec .ecZero (packet 0 0xAA 8 false)) (shows 0x03 0xAA 10 false true) = true := by decide

/-- E4: the zero header is tested before the parity (90_conflicts.md C1). -/
theorem test_ec_zero_E4 : shows 0x03 0xAA 10 true true (errorCheck (packet 0 0xAA 8 true)) = true := by decide

/-- E2 and E21. -/
theorem test_ec_par_E2_E21 : answers (exec .ecPar (packet 0x15 0xAA 8 false)) (shows 0x55 0x1AA 10 false true) = true ∧
    shows 0x0D 0x35 6 true true (errorCheck (packet 0xC3 0x5 4 true)) = true := by decide

/-- E6 and E5. -/
theorem test_ec_odd_E6_E5 : answers (exec .ecOdd (packet 0x15 0x2A 7 false)) (shows 0x2B 0xAA 8 false true) = true ∧
    answers (exec .ecOdd (packet 0x15 0x2A 7 true)) (shows 0x2A 0xAA 8 true true) = true := by decide

/-- E25: the longest result. -/
theorem test_ec_odd_E25 : shows 0x03 0x1FFFFFFF 32 true true (errorCheck (packet 0x80 0x1FFFFFFF 29 true)) = true := by
  decide

/-- E6's second step. -/
theorem test_ec_odd_fix : answers (exec .ecOddFix (packet 0x2A 0xAA 8 false)) (shows 0x2B 0xAA 8 false false) = true := by
  decide

/-- E7's second step. -/
theorem test_ec_odd_chain : answers (exec .ecOddChain (packet 0x00 0x2A 8 true)) (shows 0x03 0x2A 10 true true) = true := by
  decide

/-! ### Accessors: section 3.4 -/

theorem test_priority_address :
    answers (exec .priority (packet 0x15 0xAA 8 true)) (fun t => t.result == 1) = true ∧
    answers (exec .address (packet 0x15 0xAA 8 true)) (fun t => t.result == 5) = true ∧
    answers (exec .address (packet 0xFE 0x3FFFFFFF 30 true)) (fun t => t.result == 63) = true := by decide

theorem test_byte :
    answers (exec (.byte 1) (packet 0x78 0x123456 22 true)) (fun t => t.result == 0x34) = true ∧
    answers (exec (.byte 3) (packet 0xFE 0x3FFFFFFF 30 true)) (fun t => t.result == 0x3F) = true := by decide

theorem test_bitrange :
    answers (exec (.bitrange 4 11) (packet 0x78 0x123456 22 true)) (fun t => t.result == 0x45) = true ∧
    answers (exec (.bitrange 4 2) (packet 0x15 0xAA 8 true)) (fun t => t.result == 0) = true ∧
    answers (exec (.bitrange 0 31) (packet 0x15 0xAA 8 true)) (fun t => t.result == 0xAA) = true := by decide

theorem test_unique :
    answers (exec .unique (packet 0x78 0x123456 22 true)) (fun t => t.result == 0x12345678) = true ∧
    answers (exec .unique (packet 0xFE 0x3FFFFFFF 30 true)) (fun t => t.result == 0xFFFFFFFE) = true := by decide

/-- A look takes no tick (log 3). -/
theorem test_sent_incomplete :
    answers (step { packet 0x03 0xAA 10 false with sent := true, env := [.look .sent] })
      (fun t => t.result == 1 && t.tick == 0) = true ∧
    answers (step { packet 0x03 0xAA 10 false with sent := true, env := [.look .incomplete] })
      (fun t => t.result == 0 && t.env == []) = true := by decide

/-! ### Transmitter -/

/-- X1: the 3000th idle sample. -/
theorem test_tx_idle_ok_X1 :
    answers (step (sampled false { packet 0x15 0xAA 8 true with st := .txWait, icnt := 2999, bcnt := 7 }))
      (fun t => t.st == .txActive && t.lineOutR && t.txidx == 0 && t.tcnt == 0 && t.bcnt == 0) = true := by decide

/-- X4: the 2000th busy sample; X6: one busy sample restarts the idle count. -/
theorem test_tx_abort_X4_X6 :
    answers (step (sampled true { packet 0x15 0xAA 8 true with st := .txWait, bcnt := 1999 }))
      (fun t => statusWord t == 0x0894 && !t.lineOutR) = true ∧
    answers (step (sampled true { packet 0x15 0xAA 8 true with st := .txWait, icnt := 2999 }))
      (fun t => t.st == .txWait && t.icnt == 0 && t.bcnt == 1) = true := by decide

/-- R210: a 1 is driven 667 ticks, a 0 111. -/
theorem test_sendbit_active :
    answers (step (sampled true { packet 0x15 0xAA 8 true with st := .txActive, txidx := 0, tcnt := 666, lineOutR := true }))
      (fun t => t.st == .txRest && !t.lineOutR && t.tcnt == 667) = true ∧
    answers (step (sampled true { packet 0x15 0xAA 8 true with st := .txActive, txidx := 2, tcnt := 110, lineOutR := true }))
      (fun t => t.st == .txRest && !t.lineOutR && t.tcnt == 111) = true := by decide

/-- R211: the next slot begins. -/
theorem test_sendbit_rest :
    answers (step (sampled false { packet 0x15 0xAA 8 true with st := .txRest, txidx := 16, tcnt := 999 }))
      (fun t => t.st == .txActive && t.lineOutR && t.txidx == 17 && t.tcnt == 0) = true := by decide

/-- X1: the last slot ends. -/
theorem test_tx_end_X1 :
    answers (step (sampled false { packet 0x15 0xAA 8 true with st := .txRest, txidx := 17, tcnt := 999 }))
      (fun t => statusWord t == 0x0815 && t.txidx == 17) = true := by decide

/-- P7: the eighteen pulses of the source's example. -/
theorem test_tx_bits_P7 : txBits (packet 0x15 0xAA 8 true) =
    [true] ++ [true, false, true, false, true, false, false, false] ++
      [false, true, false, true, false, true, false, true] ++ [true] := by decide

/-! ### Formats -/

/-- A1 with E1, and A5 with E34 (the first bit lost). -/
theorem test_frame :
    answers (exec (.frame 1 5 [false, true, false, true, false, true, false, true] true) State.reset)
      (fun t => shows 0x15 0xAA 8 true false t && t.sent && t.st == .done) = true ∧
    answers (exec (.frame 2 2 [true, false, true, false, true, false, true] true) State.reset)
      (shows 0x15 0x55 8 true true) = true := by decide

/-- Section 3.1: `CLASSIFY` on each side of the threshold. -/
theorem test_symbol :
    answers (exec (.symbol 499) State.reset) (fun t => t.result == 0) = true ∧
    answers (exec (.symbol 500) State.reset) (fun t => t.result == 1) = true ∧
    faultsWith (exec (.symbol 0) State.reset) .emptyPulse = true := by decide

/-! ### Ports -/

/-- Section 3.7, and the line output on an inverted bus. -/
theorem test_ports :
    (portsOf (offer 0 0) { packet 0x15 0xAA 8 true with st := .txActive, lineOutR := true }).lineOut = some true ∧
    (portsOf (offer 0 0) tinyReset).lineOut = some true ∧
    (portsOf (offer 0 0) { State.reset with cfg := { tiny with hasTx := false } }).lineOut = none ∧
    statusWord { packet 0x15 0x55 8 true with sent := true, incomplete := true } = 0x0817 := by decide

/-! ### Witnesses: for each statement with hypotheses, concrete states and operands that meet them, clause by clause -/

/-- A reception with nine data bits stored, one silent sample before the end of the frame. -/
def nineBits : State :=
  { tinyReset with st := .gap, gcnt := 2, counter := 9, header := 0x15, payload := 0, wcnt := 1 }

theorem test_witness_ResetTickClearsEveryRegister :
    TickIs { offer 1 0 with rst := true } { packet 0x15 0xAA 8 true with env := [.tick { offer 1 0 with rst := true }] } ∧
    ({ offer 1 0 with rst := true } : TickInput).rst = true := by decide

theorem test_witness_StepRunsTheSelectedOperation :
    (TickIs (offer 2 7) (offered 2 7 State.reset) ∧ (offer 2 7).rst = false ∧
      decode (tickSelector (offer 2 7) (offered 2 7 State.reset)) = .ok (.set 7)) ∧
    (actionOf { State.reset with env := [.look (.byte 3)] } = .look (.byte 3) ∧
      decode (.port (.byte 3)) = .ok (.byte 3)) := by decide

theorem test_witness_ActiveSampleInPulseCountsWidth :
    (TickIs (quietTick tiny true) (ahead (tinyTicks [true]) { tinyReset with st := .startPulse }) ∧
      (quietTick tiny true).rst = false ∧ sampleOf tiny (quietTick tiny true) = true) ∧
    TickIs (quietTick tiny true) (ahead (tinyTicks [true]) { tinyReset with st := .pulse, wcnt := 2 }) := by decide

theorem test_witness_DecodeInvertsEncode :
    Instr.wellFormed (.frame 3 63 (List.replicate 29 true) true) = true ∧
    (encode (.frame 3 63 (List.replicate 29 true) true)).isSome = true ∧ Instr.wellFormed (.symbol 1) = true ∧
    encode (.symbol 1) = some (.pulse 1) ∧ encode (.bitrange 31 31) = some (.port (.bitrange 31 31)) ∧
    encode .calcParity = none := by decide

/-- The ranges of the invariant. -/
def rangeCheck (s : State) : Bool :=
  decide (s.cfg.Valid ∧ s.bitCount.toNat ≤ 32 ∧ s.counter.toNat ≤ 38 ∧ s.cause.toNat ≤ 5 ∧ s.wcnt ≤ s.cfg.wcntMax ∧
    s.gcnt ≤ s.cfg.maxLoops ∧ s.tcnt ≤ s.cfg.slotTicks ∧ s.icnt ≤ s.cfg.waitLoops ∧ s.bcnt ≤ s.cfg.maxLoops ∧
    s.txidx.toNat ≤ 41)

/-- Its clauses on the packet, with "no bit set at or above `n`" said as "below `2 ^ n`", so that it can be decided. -/
def packetCheck (s : State) : Bool :=
  decide (Receiving s → s.parityBit = false ∧ s.bitCount = 0 ∧ s.sent = false ∧ s.incomplete = false ∧ s.cause = 0 ∧
    s.header.toNat < 2 ^ s.counter.toNat ∧ s.payload.toNat < 2 ^ (s.counter.toNat - 8)) &&
  decide (¬ Receiving s → s.bitCount.toNat % 2 = 0 ∧ (s.ovf = false → s.payload.toNat < 2 ^ s.bitCount.toNat) ∧
    (s.ovf = true → s.bitCount = 0) ∧ (s.incomplete = true → s.sent = true))

/-- Its clauses on the counters. -/
def countersCheck (s : State) : Bool :=
  decide (s.st = .awaitStart ∨ s.st = .startPulse → s.counter = 0) &&
  decide (s.st = .awaitStart ∨ s.st = .gap → s.gcnt < s.cfg.maxLoops) && decide (s.st = .gap → 1 ≤ s.gcnt) &&
  decide (s.st = .startPulse ∨ s.st = .pulse → 1 ≤ s.wcnt) && decide (s.ovf = true → s.counter.toNat = 38) &&
  decide (s.st = .txWait → s.icnt < s.cfg.waitLoops ∧ s.bcnt < s.cfg.maxLoops) &&
  decide (s.st = .txActive → s.tcnt < activeTicks s.cfg (txBit s s.txidx.toNat)) &&
  decide (s.st = .txRest → activeTicks s.cfg (txBit s s.txidx.toNat) ≤ s.tcnt ∧ s.tcnt < s.cfg.slotTicks)

/-- Its clauses on the transmitter, and on `IDLE`. -/
def transmitterCheck (s : State) : Bool :=
  decide (s.lineOutR = true ↔ s.st = .txActive) &&
  decide (Sending s → s.bitCount ≠ 0 ∧ s.txidx.toNat ≤ s.bitCount.toNat + 9) && decide (Sending s → s.cause = 0) &&
  decide (s.cfg.hasTx = false → ¬ Sending s ∧ s.txidx = 0 ∧ s.tcnt = 0 ∧ s.icnt = 0 ∧ s.bcnt = 0) &&
  decide (IdleIsReset s)

/-- The invariant, decided. -/
def invCheck (s : State) : Bool :=
  rangeCheck s && packetCheck s && countersCheck s && transmitterCheck s

theorem inv_of_check {s : State} (h : invCheck s = true) : Inv s := by
  simp only [invCheck, rangeCheck, packetCheck, countersCheck, transmitterCheck, Bool.and_eq_true, decide_eq_true_eq] at h
  obtain ⟨⟨⟨⟨valid, r1, r2, r3, r4, r5, r6, r7, r8, r9⟩, reception, packet⟩, ⟨⟨⟨⟨⟨⟨⟨c1, c2⟩, c3⟩, c4⟩, c5⟩, c6⟩, c7⟩, c8⟩⟩,
    ⟨⟨⟨t1, t2⟩, t3⟩, t4⟩, idle⟩ := h
  refine ⟨valid, ⟨r1, r2, r3, r4, r5, r6, r7, r8, r9⟩, fun hr => ?_, fun hr => ?_, ⟨c1, c2, c3, c4, c5, c6, c7, c8⟩,
    ⟨t1, t2, t3, t4⟩, idle⟩
  · obtain ⟨h1, h2, h3, h4, h5, h6, h7⟩ := reception hr
    exact ⟨h1, h2, h3, h4, h5, fun _ hj => getLsbD_false_of_lt h6 hj, fun _ hj => getLsbD_false_of_lt h7 hj⟩
  · obtain ⟨h1, h2, h3, h4⟩ := packet hr
    exact ⟨h1, fun ho _ hj => getLsbD_false_of_lt (h2 ho) hj, h3, h4⟩

/-- A reception in progress meets the invariant, and its step ends the frame. -/
theorem test_witness_StepKeepsInvariant : Inv (sampled false nineBits) ∧ ∃ t : State,
    step (sampled false nineBits) = .next t :=
  ⟨inv_of_check (by decide), _, rfl⟩

theorem test_witness_NopLeavesEveryRegister :
    (TickIs (quietTick Config.ref1m true) (sampled true State.reset) ∧ (quietTick Config.ref1m true).rst = false ∧
      State.reset.st = .idle ∧ (quietTick Config.ref1m true).cmdValid = false) ∧
    (TickIs (offer 0 7) (offered 0 7 (packet 1 1 2 true)) ∧ (packet 1 1 2 true).st = .done) ∧
    TickIs (offer 5 7) (offered 5 7 (packet 1 1 2 true)) ∧ TickIs (offer 6 7) (offered 6 7 State.reset) ∧
    TickIs (offer 7 7) (offered 7 7 State.reset) := by decide

theorem test_witness_ReadArmsTheReceiver : State.reset.st = .idle ∧ (packet 1 1 2 true).st = .done ∧
    (offer 1 0).cmdValid = true ∧ (offer 1 0).cmd = 1 := by decide

theorem test_witness_BusyStateIgnoresCommands : nineBits.st ≠ .idle ∧ nineBits.st ≠ .done := by decide

theorem test_witness_SetLoadsThePacket : (packet 1 1 2 true).st = .done ∧ (offer 2 0xFFFFFFFF).cmdValid = true ∧
    (offer 2 0xFFFFFFFF).cmd = 2 ∧ (offer 2 0xFFFFFFFF).arg = 0xFFFFFFFF := by decide

theorem test_witness_SetPacketIsWellFormed : ∃ t : State, State.reset.st = .idle ∧
    exec (.set 0x0000AA15) State.reset = .next t ∧ 8 % 2 = 0 ∧ 2 ≤ 8 ∧ t.payload.toNat < 2 ^ 8 :=
  ⟨_, rfl, rfl, rfl, by decide, by decide⟩

theorem test_witness_MinEvenBitsIsLeast :
    (2 % 2 = 0 ∧ 2 ≤ 2 ∧ (3 : BitVec 24) >>> 2 = 0) ∧ (24 % 2 = 0 ∧ 2 ≤ 24 ∧ (0xFFFFFF : BitVec 24) >>> 24 = 0) := by
  decide

theorem test_witness_SendBeginsOrIsSkipped :
    (State.reset.st = .idle ∧ State.reset.bitCount = 0) ∧
    ((packet 1 1 2 true).st = .done ∧ (packet 1 1 2 true).cfg.hasTx = true ∧ (packet 1 1 2 true).bitCount ≠ 0) ∧
    ({ packet 1 1 2 true with cfg := { tiny with hasTx := false } } : State).cfg.hasTx = false ∧
    (offer 3 0).cmdValid = true ∧ (offer 3 0).cmd = 3 := by decide

theorem test_witness_SetsendIsSetThenSend : State.reset.st = .idle ∧ State.reset.cfg.hasTx = true ∧
    ({ State.reset with cfg := { tiny with hasTx := false } } : State).cfg.hasTx = false ∧
    (offer 4 9).cmdValid = true ∧ (offer 4 9).cmd = 4 ∧ (offer 4 9).arg = 9 := by decide

theorem test_witness_FirstActiveSampleStartsTheFrame :
    ({ tinyReset with st := .awaitStart } : State).st = .awaitStart ∧ sampleOf tiny (quietTick tiny true) = true := by
  decide

theorem test_witness_StartTimeoutAtMaxloops :
    (({ tinyReset with st := .awaitStart, gcnt := 2 } : State).st = .awaitStart ∧
      sampleOf tiny (quietTick tiny false) = false ∧ 2 + 1 = tiny.maxLoops) ∧
    (TickIs (quietTick tiny false) (ahead (tinyTicks [false]) { tinyReset with st := .awaitStart, gcnt := 1 }) ∧
      (quietTick tiny false).rst = false ∧ 1 + 1 ≠ tiny.maxLoops) := by decide

theorem test_witness_GapBeginsAndEndsAtASample :
    (({ tinyReset with st := .startPulse } : State).st = .startPulse ∧ sampleOf tiny (quietTick tiny false) = false) ∧
    nineBits.st = .gap ∧ sampleOf nineBits.cfg (quietTick tiny true) = true := by decide

theorem test_witness_PulseEndStoresTheClassifiedBit :
    ({ tinyReset with st := .pulse, wcnt := 1 } : State).st = .pulse ∧ sampleOf tiny (quietTick tiny false) = false ∧
    1 < tiny.threshTicks ∧ tiny.threshTicks ≤ 2 := by decide

theorem test_witness_EndOfFrameAtMaxloops :
    (nineBits.gcnt + 1 = nineBits.cfg.maxLoops ∧ nineBits.st = .gap ∧ nineBits.ovf = false ∧
      9 ≤ nineBits.counter.toNat ∧ sampleOf nineBits.cfg (quietTick tiny false) = false) ∧
    (({ nineBits with counter := 8 } : State).ovf = false ∧ ({ nineBits with counter := 8 } : State).counter.toNat < 9) ∧
    ({ nineBits with counter := 38, ovf := true } : State).ovf = true ∧
    (({ nineBits with gcnt := 1 } : State).gcnt + 1 ≠ tiny.maxLoops ∧
      TickIs (quietTick tiny false) (ahead (tinyTicks [false]) { nineBits with gcnt := 1 })) := by decide

theorem test_witness_ShiftInStoresOneBit :
    (7 : Count6).toNat < 8 ∧ 8 ≤ (8 : Count6).toNat ∧ (37 : Count6).toNat < 38 ∧ 38 ≤ (38 : Count6).toNat := by decide

theorem test_witness_FinalizeTakesTheParityBitOff :
    (9 ≤ nineBits.counter.toNat ∧ nineBits.counter.toNat ≤ 38 ∧ ClearFrom nineBits.payload (nineBits.counter.toNat - 8)) ∧
    (9 ≤ (38 : Count6).toNat ∧ (38 : Count6).toNat ≤ 38 ∧ ClearFrom (0x3FFFFFFF : Payload) ((38 : Count6).toNat - 8)) :=
  ⟨⟨by decide, by decide, fun _ hj => getLsbD_false_of_lt (n := 1) (by decide) hj⟩, by decide, by decide,
    fun _ hj => getLsbD_false_of_lt (n := 30) (by decide) hj⟩

theorem test_witness_MeaninglessOperandsFault : ({ nineBits with counter := 8 } : State).counter.toNat < 9 := by decide

theorem finalize_answers {s : State} (h : 9 ≤ s.counter.toNat) : ∃ t : State, exec .finalize s = .next t :=
  ⟨_, if_neg (Nat.not_lt.mpr h)⟩

theorem test_witness_AssemblyPlacesEveryBit :
    (∃ t : State, 9 ≤ (List.replicate 9 true).length ∧ (List.replicate 9 true).length ≤ 38 ∧
      exec .finalize ((List.replicate 9 true).foldl (fun u b => shiftIn b u) (initPacket tinyReset)) = .next t) ∧
    ∃ t : State, 9 ≤ (List.replicate 38 true).length ∧ (List.replicate 38 true).length ≤ 38 ∧
      exec .finalize ((List.replicate 38 true).foldl (fun u b => shiftIn b u) (initPacket tinyReset)) = .next t :=
  ⟨(finalize_answers (by decide)).imp fun _ h => ⟨by decide, by decide, h⟩,
    (finalize_answers (by decide +kernel)).imp fun _ h => ⟨by decide, by decide, h⟩⟩

theorem test_witness_AssemblyInvertsTxBits : ∃ u : State, (packet 0x15 0xAA 8 true).bitCount.toNat % 2 = 0 ∧
    2 ≤ (packet 0x15 0xAA 8 true).bitCount.toNat ∧ (packet 0x15 0xAA 8 true).bitCount.toNat ≤ 24 ∧
    (packet 0x15 0xAA 8 true).payload.toNat < 2 ^ (packet 0x15 0xAA 8 true).bitCount.toNat ∧
    exec .finalize ((txBits (packet 0x15 0xAA 8 true)).tail.foldl (fun v b => shiftIn b v) (initPacket tinyReset)) =
      .next u :=
  ⟨_, by decide, by decide, by decide, by decide, rfl⟩

theorem test_witness_TransferCopiesThenShifts :
    (packet 0xFF 0xFFFFFFFF 31 true).bitCount.toNat + 1 ≤ 32 ∧ (packet 0xFF 0x3FFFFFFF 30 true).bitCount.toNat + 2 ≤ 32 := by
  decide

theorem test_witness_AgreeingFrameIsAcceptedUnmodified : (packet 0x15 0xAA 8 true).bitCount.toNat % 2 = 0 ∧
    (packet 0x15 0xAA 8 true).header ≠ 0 ∧
    calcParity (packet 0x15 0xAA 8 true) = (packet 0x15 0xAA 8 true).parityBit := by decide

theorem test_witness_ZeroHeaderIsAlwaysRepaired : (packet 0 0x3FFFFFFF 30 true).header = 0 ∧
    (packet 0 0x3FFFFFFF 30 true).bitCount.toNat + 2 ≤ 32 ∧ (packet 0 0x3FFFFFFF 30 true).bitCount.toNat % 2 = 0 ∧
    ClearFrom (packet 0 0x3FFFFFFF 30 true).payload (packet 0 0x3FFFFFFF 30 true).bitCount.toNat :=
  ⟨rfl, by decide, by decide, fun _ hj => getLsbD_false_of_lt (n := 30) (by decide) hj⟩

theorem test_witness_ParityMismatchTransfersTwoBits : (packet 0x15 0xAA 8 false).bitCount.toNat + 2 ≤ 32 ∧
    (packet 0x15 0xAA 8 false).bitCount.toNat % 2 = 0 ∧ (packet 0x15 0xAA 8 false).header ≠ 0 ∧
    calcParity (packet 0x15 0xAA 8 false) ≠ (packet 0x15 0xAA 8 false).parityBit ∧
    ClearFrom (packet 0x15 0xAA 8 false).payload (packet 0x15 0xAA 8 false).bitCount.toNat :=
  ⟨by decide, by decide, by decide, by decide, fun _ hj => getLsbD_false_of_lt (n := 8) (by decide) hj⟩

/-- E6 and E5 and E7: the packets after the one-bit transfer disagree, agree, and agree with a zero header. -/
theorem test_witness_OddLengthTransfersOneBit : (packet 0x15 0x2A 7 false).bitCount.toNat + 1 ≤ 32 ∧
    (packet 0x15 0x2A 7 false).bitCount.toNat % 2 = 1 ∧
    ClearFrom (packet 0x15 0x2A 7 false).payload (packet 0x15 0x2A 7 false).bitCount.toNat ∧
    (calcParity (packet 0x2A 0xAA 8 false) ≠ false ∧ calcParity (packet 0x2A 0xAA 8 true) = true ∧
      calcParity (packet 0x00 0x2A 8 true) = true) :=
  ⟨by decide, by decide, fun _ hj => getLsbD_false_of_lt (n := 7) (by decide) hj, by decide⟩

theorem test_witness_OddCaseOperationsComplete : (packet 0x00 0x2A 8 true).header = 0 ∧
    ((packet 0x15 0xAA 8 false).header ≠ 0 ∧ calcParity (packet 0x15 0xAA 8 false) ≠ false) ∧
    ((packet 0x15 0xAA 8 true).header ≠ 0 ∧ calcParity (packet 0x15 0xAA 8 true) = true) := by decide

/-- E1, E3, E2, E6, E5, E25: one packet for each of the six paths. -/
theorem test_witness_ErrorCheckTakesOneOfSixPaths :
    ((packet 0x80 0x1FFFFFFF 29 true).bitCount.toNat ≤ 29 ∧
      ClearFrom (packet 0x80 0x1FFFFFFF 29 true).payload (packet 0x80 0x1FFFFFFF 29 true).bitCount.toNat ∧
      true = (calcParity (packet 0x80 0x1FFFFFFF 29 true) ^^ true ^^ false) ∧ (0x80 : Header) <<< 1 = 0) ∧
    ((packet 0x15 0xAA 8 true).bitCount.toNat % 2 = 0 ∧ calcParity (packet 0x15 0xAA 8 true) = true) ∧
    ((packet 0 0xAA 8 false).bitCount.toNat % 2 = 0 ∧ (packet 0 0xAA 8 false).header = 0) ∧
    calcParity (packet 0x15 0xAA 8 false) ≠ false ∧
    ((packet 0x15 0x2A 7 false).bitCount.toNat % 2 = 1 ∧
      (calcParity (packet 0x15 0x2A 7 false) ^^ false ^^ true) ≠ false) ∧
    ((calcParity (packet 0x15 0x2A 7 true) ^^ false ^^ true) = true ∧ (0x15 : Header) <<< 1 ≠ 0) :=
  ⟨⟨by decide, fun _ hj => getLsbD_false_of_lt (n := 29) (by decide) hj, by decide, by decide⟩, by decide, by decide,
    by decide, by decide, by decide⟩

theorem test_witness_ParityFailsInExactlyTwoSituations : (packet 0x80 0x1FFFFFFF 29 true).bitCount.toNat ≤ 29 ∧
    ClearFrom (packet 0x80 0x1FFFFFFF 29 true).payload (packet 0x80 0x1FFFFFFF 29 true).bitCount.toNat :=
  ⟨by decide, fun _ hj => getLsbD_false_of_lt (n := 29) (by decide) hj⟩

theorem test_witness_LookChangesNoRegister :
    actionOf { packet 0x15 0xAA 8 true with env := [.look .unique] } = .look .unique := by decide

theorem test_witness_UniqueRoundTripsThroughSet : (∃ t u : State, State.reset.st = .idle ∧
      exec (.set 0xFFFFFFFF) State.reset = .next t ∧ exec .unique t = .next u) ∧
    ∃ t : State, (packet 0xFF 0xFFFFFF 24 false).st = .done ∧ (packet 0xFF 0xFFFFFF 24 false).payload.toNat < 2 ^ 24 ∧
      exec (.set (uniqueOf 0xFF 0xFFFFFF)) (packet 0xFF 0xFFFFFF 24 false) = .next t :=
  ⟨⟨_, _, rfl, rfl, rfl⟩, _, rfl, by decide, rfl⟩

theorem test_witness_PortsShowTheRegisters : tinyReset.cfg.hasTx = true ∧ tinyReset.lineOutR = false ∧
    ({ tinyReset with lineOutR := true } : State).lineOutR = true ∧
    ({ tinyReset with cfg := { tiny with hasTx := false } } : State).cfg.hasTx = false ∧
    (portsOf { offer 0 0 with brFirst := 31, brLast := 31, byteSel := 3 } (packet 0x15 0x80000000 32 true)).bitrangeO = 1 := by
  decide

theorem test_witness_IdleSamplesLeadToTheStartPulse :
    (({ tinyReset with st := .txWait, icnt := 1 } : State).st = .txWait ∧ sampleOf tiny (quietTick tiny false) = false ∧
      1 + 1 = tiny.waitLoops) ∧
    (TickIs (quietTick tiny false) (ahead (tinyTicks [false]) { tinyReset with st := .txWait }) ∧
      (quietTick tiny false).rst = false ∧ 0 + 1 ≠ tiny.waitLoops) := by decide

theorem test_witness_BusySamplesLeadToTheAbort :
    (({ tinyReset with st := .txWait, bcnt := 2 } : State).st = .txWait ∧ sampleOf tiny (quietTick tiny true) = true ∧
      2 + 1 = tiny.maxLoops) ∧
    (TickIs (quietTick tiny true) (ahead (tinyTicks [true]) { tinyReset with st := .txWait, bcnt := 1 }) ∧
      (quietTick tiny true).rst = false ∧ 1 + 1 ≠ tiny.maxLoops) := by decide

theorem test_witness_SlotRunsItsTwoParts :
    (({ tinyReset with st := .txActive, tcnt := 1 } : State).st = .txActive ∧
      1 + 1 = activeTicks tiny (txBit { tinyReset with st := .txActive, tcnt := 1 } 0) ∧
      0 + 1 ≠ activeTicks tiny (txBit { tinyReset with st := .txActive } 0)) ∧
    (({ tinyReset with st := .txRest, tcnt := 2 } : State).st = .txRest ∧ 2 + 1 = tiny.slotTicks ∧
      1 + 1 ≠ tiny.slotTicks ∧ (0 : Count6).toNat ≠ tinyReset.bitCount.toNat + 9 ∧
      (9 : Count6).toNat = tinyReset.bitCount.toNat + 9) := by decide

theorem test_witness_TransmissionDrivesTheWaveform : ∀ n : Count6, n = 0 ∨ n = 32 → ∃ (s : State) (ins : List TickInput),
    s.bitCount = n ∧ s.cfg.Valid ∧ s.st = .txActive ∧ s.txidx = 0 ∧ s.tcnt = 0 ∧ s.lineOutR = true ∧
    s.bitCount.toNat ≤ 32 ∧ TicksAhead ins s ∧ ins.length = (s.bitCount.toNat + 10) * s.cfg.slotTicks := by
  intro n hn
  refine ⟨ahead (tinyTicks (List.replicate ((n.toNat + 10) * 3) true))
    { tinyReset with bitCount := n, st := .txActive, lineOutR := true },
    tinyTicks (List.replicate ((n.toNat + 10) * 3) true), rfl, (by decide : tiny.Valid), rfl, rfl, rfl, rfl, ?_, ⟨?_, [], ?_⟩, ?_⟩
  · rcases hn with rfl | rfl <;> decide
  · rcases hn with rfl | rfl <;> decide
  · rcases hn with rfl | rfl <;> decide
  · rcases hn with rfl | rfl <;> decide

theorem test_witness_FrameIsReceivedWhole : (List.replicate 29 true).length ≤ 29 ∧ 29 < (List.replicate 30 true).length := by
  decide

theorem test_witness_SymbolValueIsDecidedByWidth :
    (1 ≤ 499 ∧ 499 < State.reset.cfg.threshTicks) ∧ (1 ≤ 500 ∧ State.reset.cfg.threshTicks ≤ 500) ∧
    State.reset.cfg.Valid := by decide

theorem test_witness_LoopBackGivesThePacketBack : ∃ t u : State, State.reset.st = .idle ∧
    exec (.set 0x0000AA15) State.reset = .next t ∧ t.header ≠ 0 ∧ decodeFrame (txBits t).tail nineBits = u :=
  ⟨_, _, rfl, rfl, by decide, rfl⟩

theorem test_witness_SilenceAfterReadTimesOut : 1 ≤ tiny.maxLoops ∧ TicksAhead (tinyTicks [false, false, false])
      (ahead (tinyTicks [false, false, false]) { tinyReset with st := .awaitStart }) ∧
    (tinyTicks [false, false, false]).length = tiny.maxLoops ∧
    samplesOf tiny (tinyTicks [false, false, false]) = List.replicate tiny.maxLoops false :=
  ⟨by decide, ⟨by decide, [], by decide⟩, by decide, by decide⟩

theorem test_witness_StuckActiveLineHoldsThePulse : TicksAhead (tinyTicks [true, true])
      (ahead (tinyTicks [true, true]) { tinyReset with st := .pulse, wcnt := 1 }) ∧
    (∀ inp ∈ tinyTicks [true, true], sampleOf tiny inp = true) ∧ 1 ≤ tiny.wcntMax :=
  ⟨⟨by decide, [], by decide⟩, by decide, by decide⟩

/-- The wave of a start pulse and one data pulse, with the longest gap that continues the frame. -/
theorem test_witness_ReceptionDecodesTheWaveform :
    let ins := tinyTicks (frameWave 2 1 [(2, 2)] 3)
    let s : State := { initPacket (ahead ins tinyReset) with st := .awaitStart }
    s.cfg.Valid ∧ 2 < s.cfg.maxLoops ∧ (∀ gw ∈ [(2, 2)], 1 ≤ gw.1 ∧ gw.1 < s.cfg.maxLoops ∧ 1 ≤ gw.2) ∧
      TicksAhead ins s ∧ samplesOf s.cfg ins = frameWave 2 1 [(2, 2)] s.cfg.maxLoops :=
  ⟨by decide, by decide, by decide, ⟨by decide, [], by decide⟩, by decide⟩

theorem test_witness_IncompleteIsSetOnlyByErrorCheck : ∃ t : State, step (sampled false nineBits) = .next t ∧
    (sampled false nineBits).incomplete = false ∧ t.incomplete = true :=
  ⟨_, rfl, rfl, by decide⟩

theorem test_witness_SentIsSetOnlyByACompletedCommand : (∃ t : State, step (sampled false nineBits) = .next t ∧
      (sampled false nineBits).sent = false ∧ t.sent = true) ∧
    ∃ t : State, step (sampled false { tinyReset with st := .txRest, tcnt := 2, txidx := 9 }) = .next t ∧
      tinyReset.sent = false ∧ t.sent = true :=
  ⟨⟨_, rfl, rfl, by decide⟩, _, rfl, rfl, by decide⟩

/-- One state for each of the outcomes, with the sample that ends its command. -/
def endingStates : List (Bool × State) :=
  [(false, { tinyReset with st := .awaitStart, gcnt := 2 }),
    (false, { nineBits with ovf := true, counter := 38, payload := 0x3FFFFFFF }),
    (false, { nineBits with counter := 8 }),
    (false, nineBits),
    (true, { tinyReset with st := .txWait, bcnt := 2, bitCount := 2 }),
    (false, { tinyReset with st := .txRest, tcnt := 2, txidx := 11, bitCount := 2 })]

theorem test_witness_BusyCommandEndsInOneOutcome :
    ∀ p ∈ endingStates, Inv (sampled p.1 p.2) ∧ TickIs (quietTick tiny p.1) (sampled p.1 p.2) ∧
      (quietTick tiny p.1).rst = false ∧ isBusy (sampled p.1 p.2) = true ∧
      answers (step (sampled p.1 p.2)) (fun t => !isBusy t) = true := by
  have checked : ∀ p ∈ endingStates, invCheck (sampled p.1 p.2) = true ∧ TickIs (quietTick tiny p.1) (sampled p.1 p.2) ∧
      (quietTick tiny p.1).rst = false ∧ isBusy (sampled p.1 p.2) = true ∧
      answers (step (sampled p.1 p.2)) (fun t => !isBusy t) = true := by decide
  exact fun p hp => (checked p hp).imp_left inv_of_check

theorem test_witness_ParametersNeverChange : ∃ t : State, step (sampled false nineBits) = .next t := ⟨_, rfl⟩

theorem test_witness_ResultsHoldUntilTheNextCommand : (packet 0x15 0xAA 8 true).st = .done ∧
    TicksAhead (tinyTicks [true, false]) (ahead (tinyTicks [true, false]) (packet 0x15 0xAA 8 true)) ∧
    ∀ inp ∈ tinyTicks [true, false], inp.cmdValid = false :=
  ⟨rfl, ⟨by decide, [], by decide⟩, by decide⟩

end Sys2Proof.Tests
end

namespace Sys2Proof.Machine

/-! ### The clauses of the invariant that a state of the machine makes live -/

/-- What `CountersLive` says in the state `st` at hand, the other clauses being empty there. -/
abbrev CountersAt (s : State) : Prop :=
  match s.st with
  | .idle | .done => True
  | .awaitStart => s.counter = 0 ∧ s.gcnt < s.cfg.maxLoops
  | .startPulse => s.counter = 0 ∧ 1 ≤ s.wcnt
  | .gap => 1 ≤ s.gcnt ∧ s.gcnt < s.cfg.maxLoops
  | .pulse => 1 ≤ s.wcnt
  | .txWait => s.icnt < s.cfg.waitLoops ∧ s.bcnt < s.cfg.maxLoops
  | .txActive => s.tcnt < activeTicks s.cfg (txBit s s.txidx.toNat)
  | .txRest => activeTicks s.cfg (txBit s s.txidx.toNat) ≤ s.tcnt ∧ s.tcnt < s.cfg.slotTicks

theorem countersLive_iff (s : State) :
    CountersLive s ↔ CountersAt s ∧ (s.ovf = true → s.counter.toNat = Config.frameMax) := by
  constructor
  · rintro ⟨unstarted, silence, gap, width, overflow, wait, active, rest⟩
    refine ⟨?_, overflow⟩
    unfold CountersAt
    cases hst : s.st
    case idle => trivial
    case awaitStart => exact ⟨unstarted (.inl hst), silence (.inl hst)⟩
    case startPulse => exact ⟨unstarted (.inr hst), width (.inl hst)⟩
    case gap => exact ⟨gap hst, silence (.inr hst)⟩
    case pulse => exact width (.inr hst)
    case done => trivial
    case txWait => exact wait hst
    case txActive => exact active hst
    case txRest => exact rest hst
  · rintro ⟨live, overflow⟩
    -- A clause about another state has a false hypothesis.
    unfold CountersAt at live
    constructor <;> cases hst : s.st <;> simp_all

/-! ### The phases exclude each other -/

theorem Receiving.ne {s : State} (hr : Receiving s) : s.st ≠ .idle ∧ s.st ≠ .txActive ∧ ¬ Sending s := by
  rcases hr with h | h | h | h <;> simp [Sending, h]

theorem Sending.ne {s : State} (hs : Sending s) : s.st ≠ .idle ∧ ¬ Receiving s := by
  rcases hs with h | h | h <;> simp [Receiving, h]

/-- Where a command is accepted neither a reception nor a transmission is under way (R39). -/
theorem accepting_ne {s : State} (ha : s.st = .idle ∨ s.st = .done) :
    s.st ≠ .txActive ∧ ¬ Receiving s ∧ ¬ Sending s := by
  rcases ha with h | h <;> simp [Receiving, Sending, h]

/-! ### The transmitter outside a transmission -/

/-- The line is not driven, and an absent transmitter has its registers at zero (R34). -/
abbrev TransmitterOff (s : State) : Prop :=
  s.lineOutR = false ∧ (s.cfg.hasTx = false → s.txidx = 0 ∧ s.tcnt = 0 ∧ s.icnt = 0 ∧ s.bcnt = 0)

theorem TransmitterOff.clean {s : State} (off : TransmitterOff s) (hs : ¬ Sending s) : TransmitterClean s where
  line := by
    have : s.st ≠ .txActive := fun h => hs (.inr (.inl h))
    simp [off.1, this]
  packet h := absurd h hs
  cause h := absurd h hs
  absent hx := ⟨hs, off.2 hx⟩

theorem Inv.transmitterOff {s : State} (h : Inv s) (hst : s.st ≠ .txActive) : TransmitterOff s :=
  ⟨by simpa [hst] using h.transmitter.line, fun hx => (h.transmitter.absent hx).2⟩

theorem Inv.hasTx {s : State} (h : Inv s) (hs : Sending s) : s.cfg.hasTx ≠ false :=
  fun hx => (h.transmitter.absent hx).1 hs

/-- `T(b)` lies within a slot, for parameters that meet R265. -/
theorem activeTicks_bounds {c : Config.Params} (hc : c.Valid) (b : Bool) :
    1 ≤ activeTicks c b ∧ activeTicks c b < c.slotTicks := by
  obtain ⟨h1, h2, h3, h4, -⟩ := hc
  cases b <;> simp only [activeTicks] <;> split <;> omega

/-! ### The invariant from its clauses, phase by phase -/

theorem inv_of_receiving {s : State} (hr : Receiving s) (valid : s.cfg.Valid) (range : InRange s)
    (clean : ReceptionClean s) (counters : CountersLive s) (off : TransmitterOff s) : Inv s where
  valid := valid
  range := range
  reception _ := clean
  packet hn := absurd hr hn
  counters := counters
  transmitter := off.clean hr.ne.2.2
  idle hi := absurd hi hr.ne.1

theorem inv_of_done {s : State} (hd : s.st = .done) (valid : s.cfg.Valid) (range : InRange s) (packet : PacketClean s)
    (overflow : s.ovf = true → s.counter.toNat = Config.frameMax) (off : TransmitterOff s) : Inv s where
  valid := valid
  range := range
  reception hr := absurd hr (accepting_ne (.inr hd)).2.1
  packet _ := packet
  counters := (countersLive_iff s).2 ⟨by simp [CountersAt, hd], overflow⟩
  transmitter := off.clean (accepting_ne (.inr hd)).2.2
  idle hi := by simp [hd] at hi

theorem inv_of_sending {s : State} (hs : Sending s) (valid : s.cfg.Valid) (range : InRange s) (packet : PacketClean s)
    (counters : CountersLive s) (transmitter : TransmitterClean s) : Inv s where
  valid := valid
  range := range
  reception hr := absurd hr hs.ne.2
  packet _ := packet
  counters := counters
  transmitter := transmitter
  idle hi := absurd hi hs.ne.1

theorem inv_resetRegisters {s : State} (hv : s.cfg.Valid) : Inv (resetRegisters s) where
  valid := hv
  range := by constructor <;> simp
  reception hr := absurd rfl hr.ne.1
  packet _ := by constructor <;> simp [ClearFrom]
  counters := (countersLive_iff _).2 ⟨trivial, by simp⟩
  transmitter := TransmitterOff.clean ⟨rfl, fun _ => ⟨rfl, rfl, rfl, rfl⟩⟩ (accepting_ne (.inl rfl)).2.2
  idle _ := rfl

/-- The invariant speaks of the registers and the parameters only (log 2, log 3). -/
theorem Inv.of_sameRegisters {s t : State} (h : Inv s) (same : SameRegisters s t) : Inv t := by
  obtain ⟨valid, range, reception, packet, counters, transmitter, idle⟩ := h
  rw [same]
  refine ⟨valid, { range with }, fun hr => { reception hr with }, fun hr => { packet hr with }, { counters with },
    { transmitter with }, fun hi => ?_⟩
  exact congrArg (fun u : State => { u with env := t.env, tick := t.tick, result := t.result }) (idle hi)

/-! ### Reception -/

/-- A step inside a reception that writes only the two line counters and `st` (R102 to R109). -/
theorem Inv.countsOn {s : State} (h : Inv s) (hr : Receiving s) {w g : Nat} {f : Fsm}
    (hf : Receiving { s with wcnt := w, gcnt := g, st := f }) (hw : w ≤ s.cfg.wcntMax) (hg : g ≤ s.cfg.maxLoops)
    (live : CountersAt { s with wcnt := w, gcnt := g, st := f }) : Inv { s with wcnt := w, gcnt := g, st := f } :=
  inv_of_receiving hf h.valid { h.range with wcnt := hw, gcnt := hg } { h.reception hr with }
    ((countersLive_iff _).2 ⟨live, h.counters.overflow⟩)
    (h.transmitterOff hr.ne.2.1)

/-- A reception that ends without a packet: no register of the packet was written but by an overlong frame. -/
theorem Inv.abandons {s : State} (h : Inv s) (hr : Receiving s) {g : Nat} {c : BitVec 3} (hg : g ≤ s.cfg.maxLoops)
    (hc : c.toNat ≤ 5) (hn : s.ovf = false → s.counter.toNat ≤ 8) :
    Inv { s with gcnt := g, cause := c, st := .done } := by
  have clean := h.reception hr
  refine inv_of_done rfl h.valid { h.range with gcnt := hg, cause := hc } ⟨?_, fun ho => ?_, fun _ => clean.bitCount, ?_⟩
    h.counters.overflow (h.transmitterOff hr.ne.2.1)
  · simp [clean.bitCount]
  · have hp := clean.payload
    simpa [clean.bitCount, Nat.sub_eq_zero_of_le (hn ho)] using hp
  · simp [clean.incomplete]

theorem Inv.beginPulse {s : State} (h : Inv s) {f : Fsm}
    (hf : s.st = .awaitStart ∧ f = .startPulse ∨ s.st = .gap ∧ f = .pulse) : Inv (beginPulse f s) := by
  have hw : 1 ≤ s.cfg.wcntMax := by have := h.valid; omega
  obtain ⟨hst, rfl⟩ | ⟨hst, rfl⟩ := hf
  · exact h.countsOn (.inl hst) (.inr (.inl rfl)) hw h.range.gcnt ⟨h.counters.unstarted (.inl hst), le_refl 1⟩
  · exact h.countsOn (.inr (.inr (.inl hst))) (.inr (.inr (.inr rfl))) hw h.range.gcnt (le_refl 1)

theorem Inv.countWidth {s : State} (h : Inv s) (hst : s.st = .startPulse ∨ s.st = .pulse) : Inv (countWidth s) := by
  have hw : 1 ≤ min (s.wcnt + 1) s.cfg.wcntMax := by have := h.valid; omega
  have hr : Receiving s := by rcases hst with hst | hst <;> simp [Receiving, hst]
  refine h.countsOn hr hr (min_le_right ..) h.range.gcnt ?_
  rcases hst with hst | hst <;> simp only [CountersAt, hst]
  · exact ⟨h.counters.unstarted (.inr hst), hw⟩
  · exact hw

theorem Inv.beginGap {s : State} (h : Inv s) (hst : s.st = .startPulse ∨ s.st = .pulse) : Inv (beginGap s) := by
  have hg : 1 < s.cfg.maxLoops := by have := h.valid; omega
  have hr : Receiving s := by rcases hst with hst | hst <;> simp [Receiving, hst]
  exact h.countsOn hr (.inr (.inr (.inl rfl))) h.range.wcnt hg.le ⟨le_refl 1, hg⟩

theorem Inv.startSilence {s : State} (h : Inv s) (hst : s.st = .awaitStart) : Inv (startSilence s) := by
  have hc := h.counters.unstarted (.inl hst)
  have hg := h.counters.silence (.inl hst)
  obtain ⟨-, heq⟩ | ⟨hlt, heq⟩ := startSilence_cases s <;> rw [heq]
  · exact h.abandons (.inl hst) hg (by decide) (fun _ => by simp [hc])
  · refine h.countsOn (.inl hst) (.inl hst) h.range.wcnt hg ?_
    simp only [CountersAt, hst]
    exact ⟨hc, by omega⟩

/-- A data bit goes to the first free position of `header` or `payload`, and the counter follows (R131). -/
theorem Inv.stores {s : State} (h : Inv s) (hst : s.st = .pulse) (hlt : s.counter.toNat < 38) {hd : Header} {p : Payload}
    (hheader : ∀ j : Nat, s.counter.toNat + 1 ≤ j → hd.getLsbD j = false)
    (hpayload : ClearFrom p (s.counter.toNat + 1 - 8)) :
    Inv { s with header := hd, payload := p, counter := s.counter + 1 } := by
  have hr : Receiving s := by simp [Receiving, hst]
  have clean := h.reception hr
  have hn : (s.counter + 1).toNat = s.counter.toNat + 1 := count_add (k := 1) (by omega)
  refine inv_of_receiving hr h.valid { h.range with counter := ?_ } { clean with header := ?_, payload := ?_ }
    ((countersLive_iff _).2 ⟨by simpa only [CountersAt, hst] using h.counters.width (.inr hst), fun ho => ?_⟩)
    (h.transmitterOff hr.ne.2.1)
  · exact hn.trans_le hlt
  · simpa only [hn] using hheader
  · simpa only [hn] using hpayload
  · exact absurd (h.counters.overflow ho) hlt.ne

/-- `SHIFT_IN` inside a data pulse stores its bit, or `ovf` marks that there is no position left (R131). -/
theorem Inv.shiftIn {s : State} (h : Inv s) (hst : s.st = .pulse) (b : Bool) : Inv (shiftIn b s) := by
  have hr : Receiving s := by simp [Receiving, hst]
  have clean := h.reception hr
  obtain ⟨hc, heq⟩ | ⟨hc, hlt, heq⟩ | ⟨hc, heq⟩ := shiftIn_cases b s <;> rw [heq]
  · refine h.stores hst (by omega) (fun j hj => ?_) (fun j hj => clean.payload j (by omega))
    rw [getLsbD_setBit, if_neg (by omega), clean.header j (by omega)]
  · refine h.stores hst hlt (fun j hj => clean.header j (by omega)) (fun j hj => ?_)
    rw [getLsbD_setBit, if_neg (by omega), clean.payload j (by omega)]
  · have hfull : s.counter.toNat = Config.frameMax := le_antisymm h.range.counter hc
    exact inv_of_receiving hr h.valid { h.range with } { clean with }
      ((countersLive_iff _).2 ⟨by simpa only [CountersAt, hst] using h.counters.width (.inr hst), fun _ => hfull⟩)
      (h.transmitterOff hr.ne.2.1)

theorem shiftIn_st (b : Bool) (s : State) : (shiftIn b s).st = s.st := by
  obtain ⟨-, h⟩ | ⟨-, -, h⟩ | ⟨-, h⟩ := shiftIn_cases b s <;> rw [h]

theorem Inv.endPulse {s : State} (h : Inv s) (hst : s.st = .pulse) (b : Bool) : Inv (endPulse b s) :=
  (h.shiftIn hst b).beginGap (.inr ((shiftIn_st b s).trans hst))

/-! ### The end of a frame -/

/-- The payload run is `bitCount` bits long, with nothing above it, and at most `n` (R22, R24). -/
structure RunWithin (n : Nat) (s : State) : Prop where
  length : s.bitCount.toNat ≤ n
  clear : ClearFrom s.payload s.bitCount.toNat

theorem finalize_runWithin {s : State} (h9 : 9 ≤ s.counter.toNat) (hmax : s.counter.toNat ≤ 38)
    (clear : ClearFrom s.payload (s.counter.toNat - 8)) : RunWithin 29 (finalize s) := by
  have hn : (finalize s).bitCount.toNat = s.counter.toNat - 9 := toNat_ofNat_count (by omega)
  refine ⟨by omega, fun j hj => ?_⟩
  rw [hn] at hj
  rw [finalize_payload, getLsbD_setBit]
  split
  · rfl
  · exact clear j (by omega)

theorem xfer_bitCount_toNat {k : Nat} {s : State} (h : s.bitCount.toNat + k ≤ 32) :
    (xfer k s).bitCount.toNat = s.bitCount.toNat + k :=
  count_add (by omega)

theorem xfer_runWithin {k n : Nat} {s : State} (h : RunWithin n s) (hn : n + k ≤ 32) : RunWithin (n + k) (xfer k s) := by
  have hlen := h.length
  have hk := xfer_bitCount_toNat (k := k) (s := s) (by omega)
  refine ⟨by omega, fun j hj => ?_⟩
  rw [xfer_payload, getLsbD_copyBits, if_neg (by omega), h.clear j (by omega)]

theorem errorCheckEven_packet {s : State} (h : RunWithin 30 s) (heven : s.bitCount.toNat % 2 = 0) :
    RunWithin 32 (errorCheckEven s) ∧ (errorCheckEven s).bitCount.toNat % 2 = 0 := by
  have hlen := h.length
  have hx := xfer_runWithin (k := 2) h (le_refl 32)
  have hk := xfer_bitCount_toNat (k := 2) (s := s) (by omega)
  have heven' : (xfer 2 s).bitCount.toNat % 2 = 0 := by omega
  obtain ⟨-, heq⟩ | ⟨-, -, heq⟩ | ⟨-, -, heq⟩ := errorCheckEven_cases s <;> rw [heq]
  · exact ⟨⟨hx.length, hx.clear⟩, heven'⟩
  · exact ⟨⟨hx.length, hx.clear⟩, heven'⟩
  · exact ⟨⟨by omega, h.clear⟩, heven⟩

/-- ErrorCheck leaves whole bit pairs in a run that fits the register (R161, R152). -/
theorem errorCheck_packet {s : State} (h : RunWithin 29 s) :
    RunWithin 32 (errorCheck s) ∧ (errorCheck s).bitCount.toNat % 2 = 0 := by
  have hlen := h.length
  obtain ⟨heven, heq⟩ | ⟨hodd, heq⟩ := errorCheck_cases s <;> rw [heq]
  · exact errorCheckEven_packet ⟨by omega, h.clear⟩ heven
  · have hx := xfer_runWithin (k := 1) h (by omega)
    have hk := xfer_bitCount_toNat (k := 1) (s := s) (by omega)
    have heven : (xfer 1 s).bitCount.toNat % 2 = 0 := by omega
    obtain ⟨-, heq⟩ | ⟨-, heq⟩ := ecOddRest_cases (xfer 1 s) <;> rw [heq]
    · exact ⟨⟨hx.length.trans (by decide), hx.clear⟩, heven⟩
    · exact errorCheckEven_packet hx heven

theorem Inv.completesReception {s : State} (h : Inv s) (hst : s.st = .gap) {g : Nat} (hg : g ≤ s.cfg.maxLoops)
    (ho : s.ovf = false) (h9 : 9 ≤ s.counter.toNat) :
    Inv (completeReception (errorCheck (finalize { s with gcnt := g }))) := by
  have clean := h.reception (.inr (.inr (.inl hst)))
  obtain ⟨⟨hlen, hclear⟩, heven⟩ := errorCheck_packet (finalize_runWithin (s := { s with gcnt := g }) h9 h.range.counter
    clean.payload)
  rw [(errorCheck_repairs (finalize { s with gcnt := g })).frame]
  refine inv_of_done rfl h.valid { h.range with bitCount := hlen, gcnt := hg }
    ⟨heven, fun _ => hclear, fun hover => ?_, fun _ => rfl⟩ h.counters.overflow (h.transmitterOff (by simp [hst]))
  exact absurd hover (by simp [completeReception, ho])

theorem Inv.gapSilence {s : State} (h : Inv s) (hst : s.st = .gap) : Inv (gapSilence s) := by
  have hr : Receiving s := by simp [Receiving, hst]
  have hg := h.counters.silence (.inr hst)
  obtain ⟨-, heq⟩ | ⟨hlt, heq⟩ := gapSilence_cases s <;> rw [heq]
  · obtain ⟨ho, heq⟩ | ⟨-, hn, heq⟩ | ⟨ho, h9, heq⟩ := endOfFrame_cases { s with gcnt := s.gcnt + 1 } <;> rw [heq]
    · exact h.abandons hr hg (by decide) (fun hf => absurd (hf.symm.trans ho) (by decide))
    · exact h.abandons hr hg (by decide) (fun _ => Nat.le_of_lt_succ hn)
    · exact h.completesReception hst hg ho h9
  · refine h.countsOn hr hr h.range.wcnt hg ?_
    simp only [CountersAt, hst]
    omega

/-! ### Host commands -/

theorem Inv.read {s : State} (h : Inv s) (hst : s.st = .idle ∨ s.st = .done) :
    Inv { initPacket s with st := .awaitStart } := by
  have hg : 0 < s.cfg.maxLoops := by have := h.valid; omega
  exact inv_of_receiving (.inl rfl) h.valid
    { h.range with
      bitCount := Nat.zero_le _, counter := Nat.zero_le _, cause := Nat.zero_le _, wcnt := Nat.zero_le _, gcnt := Nat.zero_le _ }
    ⟨rfl, rfl, rfl, rfl, rfl, by simp, by simp [ClearFrom]⟩
    ((countersLive_iff _).2 ⟨⟨rfl, hg⟩, by simp⟩) (h.transmitterOff (accepting_ne hst).1)

/-- The packet of `SET` has a run of an even length that covers the operand (R202). -/
theorem loadPacket_packet (arg : UniqueWord) (s : State) :
    RunWithin 24 (loadPacket arg s) ∧ (loadPacket arg s).bitCount.toNat % 2 = 0 := by
  obtain ⟨n, hmem, hn, hlt, -⟩ := minEvenBits_cases (argPayload arg)
  have hbits : (loadPacket arg s).bitCount.toNat = n := hn
  have hrange : n ≤ 24 ∧ n % 2 = 0 := by
    have all : ∀ m ∈ evenLengths, m ≤ 24 ∧ m % 2 = 0 := by decide
    exact all n hmem
  refine ⟨⟨by omega, fun j hj => ?_⟩, by omega⟩
  have hclear := getLsbD_false_of_lt hlt (hbits ▸ hj)
  simp [loadPacket, hclear]

theorem Inv.set {s : State} (h : Inv s) (hst : s.st = .idle ∨ s.st = .done) (arg : UniqueWord) :
    Inv { loadPacket arg s with st := .done } := by
  obtain ⟨⟨hlen, hclear⟩, heven⟩ := loadPacket_packet arg s
  exact inv_of_done rfl h.valid
    { h.range with
      bitCount := hlen.trans (by decide), counter := Nat.zero_le _, cause := Nat.zero_le _, wcnt := Nat.zero_le _
      gcnt := Nat.zero_le _ }
    ⟨heven, fun _ => hclear, fun ho => absurd ho (by simp [loadPacket]), fun hi => absurd hi (by simp [loadPacket])⟩
    (fun ho => absurd ho (by simp [loadPacket])) (h.transmitterOff (accepting_ne hst).1)

theorem Inv.beginSend {s : State} (h : Inv s) (hst : s.st = .idle ∨ s.st = .done) : Inv (beginSend s) := by
  have packet := h.packet (accepting_ne hst).2.1
  have off := h.transmitterOff (accepting_ne hst).1
  have hw : 0 < s.cfg.waitLoops ∧ 0 < s.cfg.maxLoops := by have := h.valid; omega
  obtain ⟨-, heq⟩ | ⟨hx, hb, heq⟩ := beginSend_cases s <;> rw [heq]
  · exact inv_of_done rfl h.valid { h.range with cause := le_refl 5 } { packet with } h.counters.overflow off
  · refine inv_of_sending (.inl rfl) h.valid
      { h.range with
        cause := Nat.zero_le _, icnt := Nat.zero_le _, bcnt := Nat.zero_le _, tcnt := Nat.zero_le _, txidx := Nat.zero_le _ }
      { packet with } ((countersLive_iff _).2 ⟨hw, h.counters.overflow⟩)
      ⟨by simp, fun _ => ⟨hb, Nat.zero_le _⟩, fun _ => rfl, ?_⟩
    simp [hx]

/-- `SEND` writes `st` and does not look at it. -/
theorem beginSend_with_st (s : State) (f : Fsm) : beginSend { s with st := f } = beginSend s := by
  unfold beginSend
  split <;> rfl

theorem Inv.commandTick {s : State} (h : Inv s) (hst : s.st = .idle ∨ s.st = .done) (cmd : CmdCode) (arg : UniqueWord) :
    Inv (commandTick cmd arg s) := by
  unfold Machine.commandTick
  split
  · exact h.read hst
  · exact h.set hst arg
  · exact h.beginSend hst
  · rw [← beginSend_with_st _ .done]
    exact (h.set hst arg).beginSend (.inr rfl)
  · exact h

/-! ### Transmission -/

/-- The idle wait goes on with both of its counters below their limits (R208, R209). -/
theorem Inv.waitsOn {s : State} (h : Inv s) (hst : s.st = .txWait) {n b : Nat} (hn : n < s.cfg.waitLoops)
    (hb : b < s.cfg.maxLoops) : Inv { s with icnt := n, bcnt := b } := by
  refine inv_of_sending (.inl hst) h.valid { h.range with icnt := hn.le, bcnt := hb.le }
    { h.packet (Sending.ne (.inl hst)).2 with } ((countersLive_iff _).2 ⟨?_, h.counters.overflow⟩)
    { h.transmitter with absent := fun hx => absurd hx (h.hasTx (.inl hst)) }
  simpa only [CountersAt, hst] using ⟨hn, hb⟩

/-- A slot begins: `line_out_r` is 1, and the width of its pulse is ahead (R209, R211). -/
theorem Inv.beginsSlot {s : State} (h : Inv s) (hs : Sending s) {i : Count6} {n b : Nat}
    (hi : i.toNat ≤ s.bitCount.toNat + 9) (hn : n ≤ s.cfg.waitLoops) (hb : b ≤ s.cfg.maxLoops) :
    Inv (beginSlot i { s with icnt := n, bcnt := b }) := by
  have hlen := h.range.bitCount
  have htx : i.toNat ≤ Config.payloadW + 9 := by omega
  exact inv_of_sending (.inr (.inl rfl)) h.valid
    { h.range with txidx := htx, tcnt := Nat.zero_le _, icnt := hn, bcnt := hb } { h.packet hs.ne.2 with }
    ((countersLive_iff _).2 ⟨(activeTicks_bounds h.valid _).1, h.counters.overflow⟩)
    ⟨by simp, fun _ => ⟨(h.transmitter.packet hs).1, hi⟩, fun _ => h.transmitter.cause hs,
      fun hx => absurd hx (h.hasTx hs)⟩

theorem Inv.busySample {s : State} (h : Inv s) (hst : s.st = .txWait) : Inv (busySample s) := by
  obtain ⟨-, hb⟩ := h.counters.wait hst
  have hw : 0 < s.cfg.waitLoops := by have := h.valid; omega
  obtain ⟨-, heq⟩ | ⟨hne, heq⟩ := busySample_cases s <;> rw [heq]
  · exact inv_of_done rfl h.valid { h.range with cause := (by decide : (4#3).toNat ≤ 5), icnt := Nat.zero_le _, bcnt := hb }
      { h.packet (Sending.ne (.inl hst)).2 with } h.counters.overflow
      ⟨(h.transmitterOff (by simp [hst])).1, fun hx => absurd hx (h.hasTx (.inl hst))⟩
  · exact h.waitsOn hst hw (by omega)

theorem Inv.idleSample {s : State} (h : Inv s) (hst : s.st = .txWait) : Inv (idleSample s) := by
  obtain ⟨hn, -⟩ := h.counters.wait hst
  have hb : 0 < s.cfg.maxLoops := by have := h.valid; omega
  obtain ⟨-, heq⟩ | ⟨hne, heq⟩ := idleSample_cases s <;> rw [heq]
  · exact h.beginsSlot (.inl hst) (i := 0) (Nat.zero_le _) hn hb.le
  · exact h.waitsOn hst (by omega) hb

theorem Inv.slotActive {s : State} (h : Inv s) (hst : s.st = .txActive) : Inv (slotActive s) := by
  have hs : Sending s := .inr (.inl hst)
  have packet := h.packet hs.ne.2
  have absent : s.cfg.hasTx ≠ false := h.hasTx hs
  have hlt := h.counters.active hst
  obtain ⟨-, hslot⟩ := activeTicks_bounds h.valid (txBit s s.txidx.toNat)
  have htcnt : s.tcnt + 1 < s.cfg.slotTicks := by omega
  obtain ⟨hend, heq⟩ | ⟨hne, heq⟩ := slotActive_cases s <;> rw [heq]
  · exact inv_of_sending (.inr (.inr rfl)) h.valid { h.range with tcnt := htcnt.le } { packet with }
      ((countersLive_iff _).2 ⟨⟨hend.ge, htcnt⟩, h.counters.overflow⟩)
      ⟨by simp, fun _ => h.transmitter.packet hs, fun _ => h.transmitter.cause hs, fun hx => absurd hx absent⟩
  · refine inv_of_sending hs h.valid { h.range with tcnt := htcnt.le } { packet with }
      ((countersLive_iff _).2 ⟨?_, h.counters.overflow⟩) { h.transmitter with absent := fun hx => absurd hx absent }
    simp only [CountersAt, hst]
    exact lt_of_le_of_ne hlt hne

theorem Inv.slotRest {s : State} (h : Inv s) (hst : s.st = .txRest) : Inv (slotRest s) := by
  have hs : Sending s := .inr (.inr hst)
  have packet := h.packet hs.ne.2
  have absent : s.cfg.hasTx ≠ false := h.hasTx hs
  obtain ⟨hactive, hlt⟩ := h.counters.rest hst
  obtain ⟨-, hidx⟩ := h.transmitter.packet hs
  obtain ⟨-, -, heq⟩ | ⟨-, hmore, heq⟩ | ⟨hne, heq⟩ := slotRest_cases s <;> rw [heq]
  · exact inv_of_done rfl h.valid { h.range with tcnt := hlt } { packet with incomplete := fun _ => rfl }
      h.counters.overflow ⟨(h.transmitterOff (by simp [hst])).1, fun hx => absurd hx absent⟩
  · have hlen : s.bitCount.toNat ≤ 32 := h.range.bitCount
    have hnext : (s.txidx + 1).toNat = s.txidx.toNat + 1 := count_add (k := 1) (by omega)
    exact h.beginsSlot hs (by omega) h.range.icnt h.range.bcnt
  · refine inv_of_sending hs h.valid { h.range with tcnt := hlt } { packet with }
      ((countersLive_iff _).2 ⟨?_, h.counters.overflow⟩) { h.transmitter with absent := fun hx => absurd hx absent }
    simp only [CountersAt, hst]
    exact ⟨Nat.le_succ_of_le hactive, lt_of_le_of_ne hlt hne⟩

/-! ### Every step -/

theorem Inv.sampleTick {s : State} (h : Inv s) (a : Bool) : Inv (sampleTick a s) := by
  unfold Machine.sampleTick
  cases hst : s.st <;> cases a
  case awaitStart.false => exact h.startSilence hst
  case awaitStart.true => exact h.beginPulse (.inl ⟨hst, rfl⟩)
  case startPulse.false => exact h.beginGap (.inl hst)
  case startPulse.true => exact h.countWidth (.inl hst)
  case gap.false => exact h.gapSilence hst
  case gap.true => exact h.beginPulse (.inr ⟨hst, rfl⟩)
  case pulse.false => exact h.endPulse hst _
  case pulse.true => exact h.countWidth (.inr hst)
  case txWait.false => exact h.idleSample hst
  case txWait.true => exact h.busySample hst
  case txActive.false | txActive.true => exact h.slotActive hst
  case txRest.false | txRest.true => exact h.slotRest hst
  all_goals exact h

theorem Inv.registersAfter {s : State} (h : Inv s) (inp : TickInput) : Inv (registersAfter inp s) := by
  unfold Machine.registersAfter
  split
  · exact inv_resetRegisters h.valid
  · split
    · rename_i hcmd
      obtain ⟨-, hfree⟩ : inp.cmdValid = true ∧ isBusy s = false := by simpa using hcmd
      exact h.commandTick ((isBusy_eq_false_iff s).1 hfree) ..
    · exact h.sampleTick _

/-- A look hands out the value on its port and takes no tick (R57, log 3). -/
theorem step_look {s : State} {p : Port} (h : actionOf s = .look p) :
    step s = .next (afterLook (handOut (portValue p s) s)) := by
  simp only [step, h, actionStep, lookStep]
  cases p <;> rfl

/-- Whatever the environment does next, a step is a tick or a look. -/
theorem step_cases {s t : State} (h : step s = .next t) :
    (∃ inp, t = afterTick (registersAfter inp s)) ∨ ∃ v, t = afterLook (handOut v s) := by
  cases ha : actionOf s with
  | tick inp =>
    rw [step_tick ha, Host.Outcome.next.injEq] at h
    exact .inl ⟨inp, h.symm⟩
  | look p =>
    rw [step_look ha, Host.Outcome.next.injEq] at h
    exact .inr ⟨portValue p s, h.symm⟩

/-- Settles O9: each operation of R113's table keeps the invariant, by the phase it is in and the phase it leads to. -/
theorem stepKeepsInvariant : Obligations.StepKeepsInvariant := by
  intro s t h hstep
  obtain ⟨inp, rfl⟩ | ⟨v, rfl⟩ := step_cases hstep
  · exact (h.registersAfter inp).of_sameRegisters rfl
  · exact h.of_sameRegisters rfl

/-- Settles O8: the reset state is what a reset leaves of itself, and `REF1M` meets R265. -/
theorem invariantHoldsAfterReset : Obligations.InvariantHoldsAfterReset :=
  inv_resetRegisters (s := State.reset) (by decide)

end Sys2Proof.Machine

namespace Sys2Proof.Machine

/-! ### What sets a result flag -/

/-- No result flag goes from 0 to 1. -/
abbrev SetsNoFlag (s t : State) : Prop :=
  (t.sent = true → s.sent = true) ∧ (t.incomplete = true → s.incomplete = true)

/-- An inactive sample now ends a frame of at least 9 data bits (R107, R133). -/
abbrev FrameCompletes (s : State) : Prop :=
  s.st = .gap ∧ s.gcnt + 1 = s.cfg.maxLoops ∧ s.ovf = false ∧ 9 ≤ s.counter.toNat

/-- A tick now ends the slot of the last pulse (R212). -/
abbrev LastSlotEnds (s : State) : Prop :=
  s.st = .txRest ∧ s.tcnt + 1 = s.cfg.slotTicks ∧ s.txidx.toNat = s.bitCount.toNat + 9

theorem beginSend_setsNoFlag (s : State) : SetsNoFlag s (beginSend s) := by
  obtain ⟨-, h⟩ | ⟨-, -, h⟩ := beginSend_cases s <;> rw [h] <;> exact ⟨id, id⟩

theorem commandTick_setsNoFlag (cmd : CmdCode) (arg : UniqueWord) (s : State) : SetsNoFlag s (commandTick cmd arg s) := by
  unfold commandTick
  split
  · exact ⟨by simp, by simp⟩
  · exact ⟨by simp [loadPacket], by simp [loadPacket]⟩
  · exact beginSend_setsNoFlag s
  · obtain ⟨hsent, hinc⟩ := beginSend_setsNoFlag (loadPacket arg s)
    exact ⟨fun h => absurd (hsent h) (by simp [loadPacket]), fun h => absurd (hinc h) (by simp [loadPacket])⟩
  · exact ⟨id, id⟩

/-- What a step from `s` to `t` can do to the result flags: set none, complete a reception, or complete a transmission
(R25, R26). -/
abbrev FlagStep (s t : State) : Prop :=
  SetsNoFlag s t ∨ FrameCompletes s ∧ t.sent = true ∧ t.st = .done ∨
    LastSlotEnds s ∧ t.st = .done ∧ t.incomplete = s.incomplete

theorem gapSilence_flagStep {s : State} (hst : s.st = .gap) : FlagStep s (gapSilence s) := by
  obtain ⟨hmax, h⟩ | ⟨-, h⟩ := gapSilence_cases s <;> rw [h]
  · obtain ⟨-, h⟩ | ⟨-, -, h⟩ | ⟨ho, h9, h⟩ := endOfFrame_cases { s with gcnt := s.gcnt + 1 } <;> rw [h]
    · exact .inl ⟨id, id⟩
    · exact .inl ⟨id, id⟩
    · exact .inr (.inl ⟨⟨hst, hmax, ho, h9⟩, rfl, rfl⟩)
  · exact .inl ⟨id, id⟩

theorem slotRest_flagStep {s : State} (hst : s.st = .txRest) : FlagStep s (slotRest s) := by
  obtain ⟨hslot, hidx, h⟩ | ⟨-, -, h⟩ | ⟨-, h⟩ := slotRest_cases s <;> rw [h]
  · exact .inr (.inr ⟨⟨hst, hslot, hidx⟩, rfl, rfl⟩)
  · exact .inl ⟨id, id⟩
  · exact .inl ⟨id, id⟩

theorem endPulse_setsNoFlag (b : Bool) (s : State) : SetsNoFlag s (endPulse b s) := by
  unfold endPulse
  obtain ⟨-, h⟩ | ⟨-, -, h⟩ | ⟨-, h⟩ := shiftIn_cases b s <;> rw [h] <;> exact ⟨id, id⟩

theorem startSilence_setsNoFlag (s : State) : SetsNoFlag s (startSilence s) := by
  obtain ⟨-, h⟩ | ⟨-, h⟩ := startSilence_cases s <;> rw [h] <;> exact ⟨id, id⟩

theorem idleSample_setsNoFlag (s : State) : SetsNoFlag s (idleSample s) := by
  obtain ⟨-, h⟩ | ⟨-, h⟩ := idleSample_cases s <;> rw [h] <;> exact ⟨id, id⟩

theorem busySample_setsNoFlag (s : State) : SetsNoFlag s (busySample s) := by
  obtain ⟨-, h⟩ | ⟨-, h⟩ := busySample_cases s <;> rw [h] <;> exact ⟨id, id⟩

theorem slotActive_setsNoFlag (s : State) : SetsNoFlag s (slotActive s) := by
  obtain ⟨-, h⟩ | ⟨-, h⟩ := slotActive_cases s <;> rw [h] <;> exact ⟨id, id⟩

theorem sampleTick_flagStep (a : Bool) (s : State) : FlagStep s (sampleTick a s) := by
  unfold sampleTick
  cases hst : s.st <;> cases a
  case awaitStart.false => exact .inl (startSilence_setsNoFlag s)
  case gap.false => exact gapSilence_flagStep hst
  case pulse.false => exact .inl (endPulse_setsNoFlag _ s)
  case txWait.false => exact .inl (idleSample_setsNoFlag s)
  case txWait.true => exact .inl (busySample_setsNoFlag s)
  case txActive.false | txActive.true => exact .inl (slotActive_setsNoFlag s)
  case txRest.false | txRest.true => exact slotRest_flagStep hst
  -- The other samples write `st`, `wcnt` and `gcnt` at most.
  all_goals exact .inl ⟨id, id⟩

theorem registersAfter_flagStep (inp : TickInput) (s : State) : FlagStep s (registersAfter inp s) := by
  unfold registersAfter
  split
  · exact .inl ⟨by simp, by simp⟩
  · split
    · exact .inl (commandTick_setsNoFlag ..)
    · exact sampleTick_flagStep ..

theorem step_flagStep {s t : State} (h : step s = .next t) : FlagStep s t := by
  obtain ⟨inp, rfl⟩ | ⟨v, rfl⟩ := step_cases h
  · exact registersAfter_flagStep inp s
  · exact .inl ⟨id, id⟩

/-- Settles O55: of the steps that set a flag, only the end of a frame can set `incomplete`. -/
theorem incompleteIsSetOnlyByErrorCheck : Obligations.IncompleteIsSetOnlyByErrorCheck := by
  intro s t hstep hs ht
  obtain ⟨-, hnone⟩ | ⟨⟨hst, hmax, ho, h9⟩, hsent, hdone⟩ | ⟨-, -, hsame⟩ := step_flagStep hstep
  · simp [hnone ht] at hs
  · exact ⟨hst, hmax, ho, h9, hsent, hdone⟩
  · simp [← hsame, ht] at hs

/-- Settles O56, by the two steps that set `sent`. -/
theorem sentIsSetOnlyByACompletedCommand : Obligations.SentIsSetOnlyByACompletedCommand := by
  intro s t hstep hs ht
  obtain ⟨hnone, -⟩ | ⟨hframe, -, hdone⟩ | ⟨hslot, hdone, -⟩ := step_flagStep hstep
  · simp [hnone ht] at hs
  · exact ⟨hdone, .inl hframe⟩
  · exact ⟨hdone, .inr hslot⟩

/-! ### Busy states -/

/-- In a busy state a tick is its reset input and its sample: the command port is not looked at (R39). -/
theorem tickStep_busy {s : State} {inp : TickInput} (h : isBusy s = true) :
    tickStep inp s = .next (afterTick (if inp.rst then resetRegisters s else sampleTick (sampleOf s.cfg inp) s)) := by
  unfold tickStep
  split
  · rfl
  · exact runTick_busy h

/-- Settles O12: neither the tick nor `exec` looks at a command in a busy state. -/
theorem busyStateIgnoresCommands : Obligations.BusyStateIgnoresCommands := by
  intro s hidle hdone
  have hb : isBusy s = true := (isBusy_eq_true_iff s).2 ⟨hidle, hdone⟩
  refine ⟨fun inp cmd arg => ?_, ?_, ?_, fun arg => ⟨?_, ?_⟩⟩
  · rw [tickStep_busy hb, tickStep_busy hb]
    rfl
  all_goals exact congrArg Host.Outcome.next (whenAccepting_of_busy _ hb)

/-! ### Reset -/

/-- Settles O1, by evaluating the reset state. -/
theorem resetStateHasEveryRegisterZero : Obligations.ResetStateHasEveryRegisterZero := by
  unfold Obligations.ResetStateHasEveryRegisterZero
  decide

/-! ### Ports -/

theorem isDone_eq_true_iff (s : State) : isDone s = true ↔ s.st = .done := by
  simp [isDone]

/-- The status word, read at every position: the layout of R38. -/
theorem getLsbD_statusWord (s : State) (i : Nat) :
    (statusWord s).getLsbD i =
      if i = 0 then s.sent else if i = 1 then s.incomplete else if i = 2 then s.parityBit
      else if i = 3 then isBusy s else if i = 4 then isDone s
      else if i < 8 then s.cause.getLsbD (i - 5) else s.bitCount.getLsbD (i - 8) := by
  unfold statusWord
  simp only [BitVec.getLsbD_setWidth, BitVec.getLsbD_append, BitVec.getLsbD_ofBool, BitVec.getLsbD_zero]
  rcases Nat.lt_or_ge i 14 with hin | hout
  · interval_cases i <;> rfl
  · have hzero : s.bitCount.getLsbD (i - 8) = false := BitVec.getLsbD_of_ge _ _ (by omega)
    simp only [hzero]
    grind

/-- Settles O42: each field of the table of R38 is read off the layout, bit by bit. -/
theorem statusWordShowsItsFields : Obligations.StatusWordShowsItsFields := by
  intro s
  refine ⟨getLsbD_statusWord s 0, getLsbD_statusWord s 1, getLsbD_statusWord s 2, ?_, ?_, ?_, ?_, ?_⟩
  · rw [getLsbD_statusWord]
    exact isBusy_eq_true_iff s
  · rw [getLsbD_statusWord]
    exact isDone_eq_true_iff s
  all_goals
    refine BitVec.eq_of_getLsbD_eq fun i hi => ?_
    rw [BitVec.getLsbD_extractLsb', getLsbD_statusWord]
    interval_cases i <;> simp [BitVec.getLsbD_of_ge]

theorem priorityOf_toNat (h : Header) : (priorityOf h).toNat = h.toNat % 4 := by
  simp [priorityOf]

theorem addressOf_toNat (h : Header) : (addressOf h).toNat = h.toNat / 4 := by
  have := h.isLt
  simp [addressOf, Nat.shiftRight_eq_div_pow]
  omega

theorem byteOf_toNat (p : Payload) (sel : BitVec 2) :
    (byteOf p sel).toNat = p.toNat / 2 ^ (8 * sel.toNat) % 256 := by
  simp [byteOf, Nat.shiftRight_eq_div_pow]

theorem sliceAt_toNat (p : Payload) (first : Nat) {len : Nat} (hlen : len ≤ 32) :
    (sliceAt p first len).toNat = p.toNat / 2 ^ first % 2 ^ len := by
  have hpow : 2 ^ len ≤ 2 ^ 32 := Nat.pow_le_pow_right (by decide) hlen
  have hmask : (BitVec.ofNat 32 (2 ^ len - 1)).toNat = 2 ^ len - 1 := by
    rw [BitVec.toNat_ofNat]
    exact Nat.mod_eq_of_lt (by omega)
  rw [sliceAt, BitVec.toNat_and, hmask, Nat.and_two_pow_sub_one_eq_mod, BitVec.toNat_ushiftRight,
    Nat.shiftRight_eq_div_pow]

theorem bitRangeOf_toNat (p : Payload) (first last : BitVec 5) :
    (bitRangeOf p first last).toNat =
      if first.toNat ≤ last.toNat then p.toNat / 2 ^ first.toNat % 2 ^ (last.toNat - first.toNat + 1) else 0 := by
  have := last.isLt
  unfold bitRangeOf
  split
  · exact sliceAt_toNat p _ (by omega)
  · rfl

theorem uniqueOf_toNat (h : Header) (p : Payload) :
    (uniqueOf h p).toNat = (h.toNat + p.toNat * 256) % 2 ^ 32 := by
  have := h.isLt
  simp [uniqueOf, Nat.shiftLeft_eq]

theorem lineOutLevel_eq (s : State) (hx : s.cfg.hasTx = true) :
    lineOutLevel s = some (if s.lineOutR then s.cfg.activeLevel else !s.cfg.activeLevel) := by
  cases hl : s.lineOutR <;> simp [lineOutLevel, hx, hl]

/-- Settles O43: the ports that compute a value by the laws above, the others by what they show. -/
theorem portsShowTheRegisters : Obligations.PortsShowTheRegisters := by
  intro s inp
  refine ⟨fun hx => ?_, fun hx hl => ?_, fun hx hl => ?_, rfl, rfl, rfl, rfl, rfl, rfl, rfl, rfl, isBusy_eq_true_iff s,
    isDone_eq_true_iff s, rfl, rfl, priorityOf_toNat _, addressOf_toNat _, byteOf_toNat .., bitRangeOf_toNat ..,
    uniqueOf_toNat ..⟩
  · simp [portsOf, lineOutLevel, hx]
  · simp [portsOf, lineOutLevel_eq s hx, hl]
  · simp [portsOf, lineOutLevel_eq s hx, hl]

end Sys2Proof.Machine

namespace Sys2Proof.Machine

/-! ### Ticks that offer no command -/

/-- Where no command runs, a tick with none offered writes no register, whatever its sample (R112). -/
theorem registersAfter_quiet {s : State} {inp : TickInput} (hs : s.st = .idle ∨ s.st = .done) (hr : inp.rst = false)
    (hv : inp.cmdValid = false) : registersAfter inp s = s := by
  rcases hs with hs | hs <;> simp [registersAfter, hr, hv, sampleTick, hs]

/-- A run over such ticks only moves the environment and the tick count on. -/
theorem runSteps_quiet {s : State} {ins : List TickInput} (hs : s.st = .idle ∨ s.st = .done) (h : TicksAhead ins s)
    (hv : ∀ inp ∈ ins, inp.cmdValid = false) :
    runSteps ins.length s = .next { s with env := s.env.drop ins.length, tick := s.tick + ins.length } := by
  induction ins generalizing s with
  | nil => rfl
  | cons inp ins ih =>
    obtain ⟨hr, hstep, hahead⟩ := h.step
    rw [registersAfter_quiet hs hr (hv inp (by simp))] at hstep hahead
    rw [List.length_cons, runSteps_succ _ hstep, ih (s := afterTick s) hs hahead fun i hi => hv i (by simp [hi])]
    simp [afterTick, Nat.add_comm, Nat.add_left_comm]

/-- Settles O59: `DONE` is one of the two states in which ticks without a command write no register. -/
theorem resultsHoldUntilTheNextCommand : Obligations.ResultsHoldUntilTheNextCommand := by
  intro s ins hdone hahead hv
  exact ⟨_, runSteps_quiet (.inr hdone) hahead hv, rfl⟩

/-! ### Looks and parameters -/

/-- Settles O40, by what a look is. -/
theorem lookChangesNoRegister : Obligations.LookChangesNoRegister :=
  fun _ _ h => step_look h

/-- Settles O58: a tick, reset included, keeps the model's own fields, and a look writes `result` alone. -/
theorem parametersNeverChange : Obligations.ParametersNeverChange := by
  intro s t hstep
  obtain ⟨inp, rfl⟩ | ⟨v, rfl⟩ := step_cases hstep
  · exact (registersAfter_sameOwn inp s).cfg
  · rfl

end Sys2Proof.Machine

namespace Sys2Proof.Machine

/-! ### The bits of a frame -/

theorem frameData_length (priority : BitVec 2) (address : BitVec 6) (payload : List Bool) (parity : Bool) :
    (frameData priority address payload parity).length = payload.length + 9 := by
  simp only [frameData, List.length_append, fieldToBits_length, List.length_singleton]
  omega

theorem frameData_take_two (priority : BitVec 2) (address : BitVec 6) (payload : List Bool) (parity : Bool) :
    (frameData priority address payload parity).take 2 = fieldToBits priority := by
  simp only [frameData, List.append_assoc]
  exact List.take_left' (fieldToBits_length _)

theorem frameData_drop_two (priority : BitVec 2) (address : BitVec 6) (payload : List Bool) (parity : Bool) :
    (frameData priority address payload parity).drop 2 = fieldToBits address ++ (payload ++ [parity]) := by
  simp only [frameData, List.append_assoc]
  exact List.drop_left' (fieldToBits_length _)

theorem frameData_drop_eight (priority : BitVec 2) (address : BitVec 6) (payload : List Bool) (parity : Bool) :
    (frameData priority address payload parity).drop 8 = payload ++ [parity] := by
  rw [show 8 = 2 + 6 from rfl, ← List.drop_drop, frameData_drop_two]
  exact List.drop_left' (fieldToBits_length _)

theorem getD_concat (bits : List Bool) (b : Bool) (k : Nat) :
    (bits ++ [b]).getD k false = if k = bits.length then b else bits.getD k false := by
  grind

theorem getD_fieldToBits {w k : Nat} (v : BitVec w) (hk : k < w) : (fieldToBits v).getD k false = v.getLsbD k := by
  simp [fieldToBits, hk]

/-- The bits of the header `priority + 4 address` arrive first (R78). -/
theorem getD_frameData_header (priority : BitVec 2) (address : BitVec 6) (payload : List Bool) (parity : Bool) {k : Nat}
    (hk : k < 8) :
    (frameData priority address payload parity).getD k false = (headerOf priority address).getLsbD k := by
  rw [headerOf, BitVec.getLsbD_append]
  by_cases h2 : k < 2
  · simp only [frameData, List.append_assoc]
    rw [List.getD_append _ _ _ _ (by rwa [fieldToBits_length]), getD_fieldToBits _ h2]
    simp [h2]
  · simp only [frameData, List.append_assoc]
    rw [List.getD_append_right _ _ _ _ (by rw [fieldToBits_length]; omega), fieldToBits_length,
      List.getD_append _ _ _ _ (by rw [fieldToBits_length]; omega), getD_fieldToBits _ (by omega)]
    simp [h2]

/-- After the header come the payload bits and the parity bit (R75). -/
theorem getD_frameData_rest (priority : BitVec 2) (address : BitVec 6) (payload : List Bool) (parity : Bool) (k : Nat) :
    (frameData priority address payload parity).getD (k + 8) false =
      if k = payload.length then parity else payload.getD k false := by
  rw [← getD_concat, ← frameData_drop_eight priority address, List.getD_eq_getElem?_getD, List.getD_eq_getElem?_getD,
    List.getElem?_drop, Nat.add_comm]

theorem getD_frameData_parity (priority : BitVec 2) (address : BitVec 6) (payload : List Bool) (parity : Bool) :
    (frameData priority address payload parity).getD (payload.length + 8) false = parity := by
  rw [getD_frameData_rest, if_pos rfl]

theorem headerOf_toNat (priority : BitVec 2) (address : BitVec 6) :
    (headerOf priority address).toNat = priority.toNat + 4 * address.toNat := by
  have := priority.isLt
  rw [headerOf, BitVec.toNat_append, Nat.shiftLeft_eq, Nat.mul_comm, ← Nat.two_pow_add_eq_or_of_lt this]
  omega

/-! ### Decode of encode -/

/-- A pulse list of a length R76 admits falls apart into the fields it was put together from. -/
theorem decodePulses_encodePulses (priority : BitVec 2) (address : BitVec 6) (payload : List Bool) (parity : Bool)
    (h : payload.length + 9 ≤ Config.frameMax) :
    decodePulses (encodePulses priority address payload parity) = .ok (.frame priority address payload parity) := by
  have hlen := frameData_length priority address payload parity
  have hpayload : ((frameData priority address payload parity).drop 8).take payload.length = payload := by
    rw [frameData_drop_eight]
    exact List.take_left
  change decodePulses (true :: frameData priority address payload parity) = _
  rw [decodePulses, hlen, if_neg (by omega), if_neg (by omega), frameData_take_two, frameData_drop_two,
    List.take_left' (fieldToBits_length _), bitsToField_priority, bitsToField_address]
  simp only [Nat.add_sub_cancel, show payload.length + 9 - 1 = payload.length + 8 from rfl, hpayload, getD_frameData_parity]

theorem decode_of_encode {i : Instr} {w : Selector} (hwf : i.wellFormed = true) (h : encode i = some w) :
    decode w = .ok i := by
  cases i with
  | frame priority address payload parity =>
    cases h
    exact decodePulses_encodePulses _ _ _ _ (by simpa [Instr.wellFormed, wellFormedPayload] using hwf)
  | symbol width =>
    cases h
    have hw : 1 ≤ width := by simpa [Instr.wellFormed, wellFormedWidth] using hwf
    exact if_neg (by omega)
  | sendbit part => cases part <;> cases h <;> rfl
  | shiftIn | finalize | runt | overrun | calcParity | ecOk | ecZero | ecPar | ecOdd | ecOddFix | ecOddChain => cases h
  | _ =>
    cases h
    rfl

/-- The rows whose encoding is `null` (R88, log 5). -/
theorem encode_eq_none_iff (i : Instr) : encode i = none ↔
    (∃ b, i = .shiftIn b) ∨ i = .finalize ∨ i = .runt ∨ i = .overrun ∨ i = .calcParity ∨
    i = .ecOk ∨ i = .ecZero ∨ i = .ecPar ∨ i = .ecOdd ∨ i = .ecOddFix ∨ i = .ecOddChain := by
  constructor
  · intro h
    cases i with
    | shiftIn b => exact .inl ⟨b, rfl⟩
    | finalize | runt | overrun | calcParity | ecOk | ecZero | ecPar | ecOdd | ecOddFix | ecOddChain => simp
    | sendbit part => cases part <;> cases h
    | _ => cases h
  · rintro (⟨b, rfl⟩ | rfl | rfl | rfl | rfl | rfl | rfl | rfl | rfl | rfl | rfl) <;> rfl

/-- Settles O7: row by row; only the two wire formats need the bounds of well-formedness. -/
theorem decodeInvertsEncode : Obligations.DecodeInvertsEncode :=
  ⟨fun _ _ hwf h => decode_of_encode hwf h, encode_eq_none_iff⟩

/-- Settles O6: the frame is the encoding of its fields, the other words are read off the tables. -/
theorem tableWordsDecodeToTheirRows : Obligations.TableWordsDecodeToTheirRows :=
  ⟨rfl, rfl, rfl, rfl, rfl, rfl, rfl, rfl, rfl, decodePulses_encodePulses 1 5 [false, true] true (by decide)⟩

/-! ### The selected operation -/

/-- Settles O4: a tick without reset is `runTick` of its selector, a look is `exec` of its port. -/
theorem stepRunsTheSelectedOperation : Obligations.StepRunsTheSelectedOperation := by
  refine fun s i => ⟨fun inp htick hrst hdecode => ?_, fun p hlook hdecode => ?_⟩
  · have hstep : step s = onNext afterTick (exec i s) := by
      simp [step, htick, actionStep, tickStep, hrst, runTick, hdecode]
    rw [hstep]
    cases exec i s <;> rfl
  · have hport : decodePort p = i := Except.ok.inj hdecode
    have hstep : step s = onNext afterLook (exec i s) := by
      simp [step, hlook, actionStep, lookStep, hport]
    rw [hstep]
    cases exec i s <;> rfl

/-! ### The value of a symbol -/

theorem exec_symbol {w : Nat} (s : State) (hw : 1 ≤ w) :
    exec (.symbol w) s = .next { s with result := if s.cfg.threshTicks ≤ w then 1 else 0 } := by
  change execSymbol w s = _
  rw [execSymbol, if_neg (by omega), bitValue_eq]
  simp [handOut, classify]

/-- R71: for valid parameters the width of a bit lies on its side of the threshold. -/
theorem threshTicks_le_activeTicks_iff {c : Config.Params} (hc : c.Valid) (b : Bool) :
    c.threshTicks ≤ activeTicks c b ↔ b = true := by
  obtain ⟨-, hzero, hone, -⟩ := hc
  cases b
  · simpa [activeTicks] using hzero
  · simpa [activeTicks] using hone

/-- Settles O50, by the threshold test of `SYMBOL` and the sides on which the two widths lie. -/
theorem symbolValueIsDecidedByWidth : Obligations.SymbolValueIsDecidedByWidth := by
  refine ⟨fun s w hw hlt => ?_, fun s w hw hle => ?_, fun s b hc => ?_⟩
  · rw [exec_symbol s hw, if_neg (by omega)]
  · rw [exec_symbol s hw, if_pos hle]
  · rw [exec_symbol s (activeTicks_bounds hc b).1]
    simp only [threshTicks_le_activeTicks_iff hc]

/-! ### Assembling a frame -/

/-- The state after `SHIFT_IN` of each data bit, from the packet `READ` leaves (R115). -/
def assemble (bits : List Bool) (s : State) : State :=
  bits.foldl (fun t b => shiftIn b t) (initPacket s)

theorem decodeFrame_eq (bits : List Bool) (s : State) : decodeFrame bits s = endOfFrame (assemble bits s) := rfl

/-- What holds of a state `t` that has taken the data bits `bits` since `s` was cleared (R131, R138): the first 8 are in the
header, the next 30 in the payload, and `ovf` tells whether there were more. -/
structure Assembled (bits : List Bool) (s t : State) : Prop where
  frame : t = { initPacket s with header := t.header, payload := t.payload, counter := t.counter, ovf := t.ovf }
  ovf : t.ovf = decide (38 < bits.length)
  counter : t.counter.toNat = min bits.length 38
  header : ∀ k < 8, t.header.getLsbD k = bits.getD k false
  payload : ∀ k < 32, t.payload.getLsbD k = (decide (k < 30) && bits.getD (k + 8) false)

/-- `SHIFT_IN` stores the next data bit, or records that the frame is too long (R131). -/
theorem Assembled.shiftIn {bits : List Bool} {s t : State} (h : Assembled bits s t) (b : Bool) :
    Assembled (bits ++ [b]) s (shiftIn b t) := by
  have hcounter := h.counter
  have hlength : (bits ++ [b]).length = bits.length + 1 := List.length_append
  have hsucc (hlt : t.counter.toNat < 38) : (t.counter + 1).toNat = min (bits ++ [b]).length 38 := by
    have hadd : (t.counter + 1).toNat = t.counter.toNat + 1 := count_add (k := 1) (by omega)
    omega
  have hroom (hlt : t.counter.toNat < 38) : t.ovf = decide (38 < (bits ++ [b]).length) := by
    rw [h.ovf, decide_eq_decide]
    omega
  obtain ⟨hlt, heq⟩ | ⟨hge, hlt, heq⟩ | ⟨hge, heq⟩ := shiftIn_cases b t <;> rw [heq]
  · refine ⟨by rw [h.frame], hroom (by omega), hsucc (by omega), fun k hk => ?_, fun k hk => ?_⟩
    · rw [getLsbD_setBit, getD_concat, h.header k hk]
      grind
    · rw [h.payload k hk, getD_concat, if_neg (by omega)]
  · refine ⟨by rw [h.frame], hroom hlt, hsucc hlt, fun k hk => ?_, fun k hk => ?_⟩
    · rw [h.header k hk, getD_concat, if_neg (by omega)]
    · rw [getLsbD_setBit, getD_concat, h.payload k hk]
      grind
  · refine ⟨by rw [h.frame], (decide_eq_true (by omega)).symm, hcounter.trans (by omega), fun k hk => ?_, fun k hk => ?_⟩
    · rw [h.header k hk, getD_concat, if_neg (by omega)]
    · rw [h.payload k hk, getD_concat]
      grind

theorem assemble_assembled (bits : List Bool) (s : State) : Assembled bits s (assemble bits s) := by
  induction bits using List.reverseRecOn with
  | nil => exact ⟨rfl, rfl, rfl, by simp [assemble], by simp [assemble]⟩
  | append_singleton bits b ih =>
    rw [assemble, List.foldl_concat]
    exact ih.shiftIn b

/-- `FINALIZE` takes the parity bit off the payload (R134, R138). -/
theorem Assembled.finalize_packet {bits : List Bool} {s t : State} (h : Assembled bits s t) (h9 : 9 ≤ bits.length)
    (hmax : bits.length ≤ 38) :
    finalize t = { initPacket s with
      header := t.header, payload := (finalize t).payload, bitCount := BitVec.ofNat 6 (bits.length - 9)
      parityBit := bits.getD (bits.length - 1) false, counter := BitVec.ofNat 6 bits.length } ∧
    ∀ k < 32, (finalize t).payload.getLsbD k = (decide (k + 9 < bits.length) && bits.getD (k + 8) false) := by
  have hcounter : t.counter.toNat = bits.length := by rw [h.counter, min_eq_left hmax]
  have hcount : BitVec.ofNat 6 bits.length = t.counter := by rw [← hcounter, BitVec.ofNat_toNat, BitVec.setWidth_eq]
  have hparity : t.payload.getLsbD (bits.length - 9) = bits.getD (bits.length - 1) false := by
    rw [h.payload _ (by omega), decide_eq_true (by omega), Bool.true_and, show bits.length - 9 + 8 = bits.length - 1 by omega]
  have hovf : t.ovf = false := h.ovf.trans (decide_eq_false (by omega))
  have hframe : t = { initPacket s with header := t.header, payload := t.payload, counter := t.counter } :=
    h.frame.trans (by rw [hovf]; rfl)
  refine ⟨?_, fun k hk => ?_⟩
  · rw [hcount, ← hparity, ← hcounter, hframe]
    rfl
  · rw [finalize_payload, hcounter, getLsbD_setBit, h.payload k hk]
    have hpast (hge : bits.length ≤ k + 8) : bits.getD (k + 8) false = false := List.getD_eq_default _ _ hge
    grind

theorem Assembled.endOfFrame_fits {bits : List Bool} {s t : State} (h : Assembled bits s t) (h9 : 9 ≤ bits.length)
    (hmax : bits.length ≤ 38) : endOfFrame t = completeReception (errorCheck (finalize t)) := by
  have hcounter := h.counter
  have hovf : t.ovf = false := h.ovf.trans (decide_eq_false (by omega))
  obtain ⟨hover, -⟩ | ⟨-, hshort, -⟩ | ⟨-, -, heq⟩ := endOfFrame_cases t
  · simp [hovf] at hover
  · omega
  · exact heq

theorem Assembled.endOfFrame_long {bits : List Bool} {s t : State} (h : Assembled bits s t) (hlong : 38 < bits.length) :
    endOfFrame t = { initPacket s with
      header := t.header, payload := t.payload, counter := t.counter, ovf := true, cause := 3, st := .done } := by
  have hovf : t.ovf = true := h.ovf.trans (decide_eq_true hlong)
  obtain ⟨-, heq⟩ | ⟨hnot, -⟩ | ⟨hnot, -⟩ := endOfFrame_cases t
  · rw [heq, h.frame, hovf]
  · simp [hovf] at hnot
  · simp [hovf] at hnot

/-- The header of an assembled frame (R78). -/
theorem Assembled.frameHeader {priority : BitVec 2} {address : BitVec 6} {payload : List Bool} {parity : Bool} {s t : State}
    (h : Assembled (frameData priority address payload parity) s t) :
    t.header.toNat = priority.toNat + 4 * address.toNat := by
  have heq : t.header = headerOf priority address :=
    BitVec.eq_of_getLsbD_eq fun k hk => (h.header k hk).trans (getD_frameData_header _ _ _ _ hk)
  rw [heq, headerOf_toNat]

theorem exec_frame (priority : BitVec 2) (address : BitVec 6) (payload : List Bool) (parity : Bool) (s : State) :
    exec (.frame priority address payload parity) s =
      .next (decodeFrame (frameData priority address payload parity) s) := rfl

/-- Settles O49: the data bits are assembled as R131 stores them, then the end of frame tests their number (R133). -/
theorem frameIsReceivedWhole : Obligations.FrameIsReceivedWhole := by
  intro s priority address payload parity
  have hlength := frameData_length priority address payload parity
  have h := assemble_assembled (frameData priority address payload parity) s
  generalize ht : assemble (frameData priority address payload parity) s = t at h
  have hexec : exec (.frame priority address payload parity) s = .next (endOfFrame t) := by
    rw [exec_frame, decodeFrame_eq, ht]
  refine ⟨fun hfit => ?_, fun hlong => ?_⟩
  · obtain ⟨hframe, hpayload⟩ := h.finalize_packet (by omega) (by omega)
    refine ⟨finalize t, ?_, ?_, h.frameHeader, fun k hk => ?_⟩
    · rw [hexec, h.endOfFrame_fits (by omega) (by omega)]
      rfl
    · rw [hlength, Nat.add_sub_cancel, show payload.length + 9 - 1 = payload.length + 8 from rfl,
        getD_frameData_parity] at hframe
      exact hframe
    · have hpast (hge : payload.length ≤ k) : payload.getD k false = false := List.getD_eq_default _ _ hge
      rw [hpayload k hk, getD_frameData_rest]
      grind
  · rw [hexec, h.endOfFrame_long (by omega)]
    refine ⟨_, rfl, rfl, rfl, rfl, rfl, rfl, rfl, ?_, rfl, h.frameHeader, fun k hk => ?_⟩
    · exact h.counter.trans (by omega)
    · refine (h.payload k hk).trans ?_
      rw [getD_frameData_rest]
      grind

end Sys2Proof.Machine

namespace Sys2Proof.Machine

/-! ### The line decoder, one sample at a time -/

theorem isBusy_of_receiving {s : State} (h : Receiving s) : isBusy s = true := by
  rcases h with h | h | h | h <;> simp [isBusy, h]

/-- Inside the start pulse or a data pulse. -/
theorem receiving_of_width {s : State} (h : s.st = .startPulse ∨ s.st = .pulse) : Receiving s :=
  h.elim (fun h => .inr (.inl h)) (fun h => .inr (.inr (.inr h)))

/-- Before the start pulse or in a gap. -/
theorem receiving_of_silence {s : State} (h : s.st = .awaitStart ∨ s.st = .gap) : Receiving s :=
  h.elim .inl (fun h => .inr (.inr (.inl h)))

/-- During a reception the sample and the further condition of the state select the operation (R88, R113). -/
theorem decode_tick_receiving {s : State} {inp : TickInput} {a : Bool} (h : Receiving s) (ha : sampleOf s.cfg inp = a) :
    decode (tickSelector inp s) = selected s.st a (atLimit a s) := by
  rw [decode_tick_busy (isBusy_of_receiving h), ha]

/-- Without reset a tick in a busy state does what its sample does: no command is looked at (R39). -/
theorem registersAfter_sample {s : State} {inp : TickInput} {a : Bool} (hrst : inp.rst = false) (hb : isBusy s = true)
    (ha : sampleOf s.cfg inp = a) : registersAfter inp s = sampleTick a s := by
  simp [registersAfter, hrst, hb, ha]

theorem step_sample {s : State} {inp : TickInput} {a : Bool} (htick : TickIs inp s) (hrst : inp.rst = false)
    (hb : isBusy s = true) (ha : sampleOf s.cfg inp = a) : step s = .next (afterTick (sampleTick a s)) := by
  rw [step_tick htick, registersAfter_sample hrst hb ha]

theorem sampleTick_awaitStart {s : State} (h : s.st = .awaitStart) (a : Bool) :
    sampleTick a s = if a then beginPulse .startPulse s else startSilence s := by
  simp [sampleTick, h]

theorem sampleTick_startPulse {s : State} (h : s.st = .startPulse) (a : Bool) :
    sampleTick a s = if a then countWidth s else beginGap s := by
  simp [sampleTick, h]

theorem sampleTick_gap {s : State} (h : s.st = .gap) (a : Bool) :
    sampleTick a s = if a then beginPulse .pulse s else gapSilence s := by
  simp [sampleTick, h]

theorem sampleTick_pulse {s : State} (h : s.st = .pulse) (a : Bool) :
    sampleTick a s = if a then countWidth s else endPulse (classify s.cfg s.wcnt) s := by
  simp [sampleTick, h]

/-! The two arms of a silent sample, and the three outcomes of a frame. -/

theorem startSilence_atLimit {s : State} (hmax : s.gcnt + 1 = s.cfg.maxLoops) :
    startSilence s = { s with gcnt := s.gcnt + 1, cause := 1, st := .done } :=
  if_pos hmax

theorem startSilence_counts {s : State} (hlt : s.gcnt + 1 ≠ s.cfg.maxLoops) :
    startSilence s = { s with gcnt := s.gcnt + 1 } :=
  if_neg hlt

theorem gapSilence_atLimit {s : State} (hmax : s.gcnt + 1 = s.cfg.maxLoops) :
    gapSilence s = endOfFrame { s with gcnt := s.gcnt + 1 } :=
  if_pos hmax

theorem gapSilence_counts {s : State} (hlt : s.gcnt + 1 ≠ s.cfg.maxLoops) :
    gapSilence s = { s with gcnt := s.gcnt + 1 } :=
  if_neg hlt

theorem endOfFrame_overrun {s : State} (ho : s.ovf = true) : endOfFrame s = raise .overrun s :=
  if_pos ho

theorem endOfFrame_runt {s : State} (ho : s.ovf = false) (hshort : s.counter.toNat < 9) :
    endOfFrame s = raise .runt s := by
  rw [endOfFrame, ho, if_neg Bool.false_ne_true, if_pos hshort]

theorem endOfFrame_complete {s : State} (ho : s.ovf = false) (h9 : 9 ≤ s.counter.toNat) :
    endOfFrame s = completeReception (errorCheck (finalize s)) := by
  rw [endOfFrame, ho, if_neg Bool.false_ne_true, if_neg (Nat.not_lt.2 h9)]

/-- Inside the start pulse and inside a data pulse an active sample counts the width (R104, R109). -/
theorem sampleTick_active_inPulse {s : State} (h : s.st = .startPulse ∨ s.st = .pulse) :
    sampleTick true s = countWidth s := by
  rcases h with h | h
  · exact sampleTick_startPulse h true
  · exact sampleTick_pulse h true

/-- Before the limit an inactive sample outside a pulse counts the silence (R103, R107). -/
theorem sampleTick_silence_counts {s : State} (h : s.st = .awaitStart ∨ s.st = .gap)
    (hlt : s.gcnt + 1 ≠ s.cfg.maxLoops) : sampleTick false s = { s with gcnt := s.gcnt + 1 } := by
  rcases h with h | h
  · exact (sampleTick_awaitStart h false).trans (startSilence_counts hlt)
  · exact (sampleTick_gap h false).trans (gapSilence_counts hlt)

/-- Settles O5, by the sample inside a pulse. -/
theorem activeSampleInPulseCountsWidth : Obligations.ActiveSampleInPulseCountsWidth := by
  intro s inp htick hrst hst ha
  rw [step_sample htick hrst (isBusy_of_receiving (receiving_of_width hst)) ha, sampleTick_active_inPulse hst]
  rfl

/-- Settles O18: `START` needs the level alone. -/
theorem firstActiveSampleStartsTheFrame : Obligations.FirstActiveSampleStartsTheFrame := by
  refine fun s => ⟨fun inp hst ha => ?_, rfl⟩
  rw [decode_tick_receiving (receiving_of_silence (.inl hst)) ha, hst]
  rfl

theorem exec_startTimeout (s : State) : exec .startTimeout s = .next (startSilence s) := rfl

/-- Settles O19, by the two arms of R103. -/
theorem startTimeoutAtMaxloops : Obligations.StartTimeoutAtMaxloops := by
  refine fun s => ⟨fun inp hst ha hmax => ?_, fun hmax => ?_, fun hlt => ?_, fun inp htick hrst hst ha hlt => ?_⟩
  · rw [decode_tick_receiving (receiving_of_silence (.inl hst)) ha]
    simp [selected, atLimit, hst, hmax]
  · rw [exec_startTimeout, startSilence_atLimit hmax]
  · rw [exec_startTimeout, startSilence_counts hlt]
  · rw [step_sample htick hrst (isBusy_of_receiving (receiving_of_silence (.inl hst))) ha,
      sampleTick_silence_counts (.inl hst) hlt]
    rfl

/-- Settles O20, by the two selectors and what their operations write. -/
theorem gapBeginsAndEndsAtASample : Obligations.GapBeginsAndEndsAtASample := by
  refine fun s => ⟨fun inp hst ha => ?_, rfl, fun inp hst ha => ?_, rfl⟩
  · rw [decode_tick_receiving (receiving_of_width (.inl hst)) ha, hst]
    rfl
  · rw [decode_tick_receiving (receiving_of_silence (.inr hst)) ha, hst]
    rfl

/-- Settles O21: the further condition of `PULSE` is the threshold test of `CLASSIFY` (R108). -/
theorem pulseEndStoresTheClassifiedBit : Obligations.PulseEndStoresTheClassifiedBit := by
  refine fun s => ⟨fun inp hst ha => ?_, shiftIn false s, shiftIn true s, rfl, rfl, rfl, rfl⟩
  rw [decode_tick_receiving (receiving_of_width (.inr hst)) ha]
  refine ⟨fun hlt => ?_, fun hle => ?_⟩
  · simp [selected, atLimit, hst, classify, hlt]
  · simp [selected, atLimit, hst, classify, hle]

theorem exec_eof (s : State) : exec .eof s = .next (gapSilence s) := rfl

/-- Settles O22: below the limit `EOF` and the tick count; at the limit the frame ends in one of three outcomes. -/
theorem endOfFrameAtMaxloops : Obligations.EndOfFrameAtMaxloops := by
  rintro s _ rfl
  refine ⟨fun hlt => ⟨?_, fun inp htick hrst hst ha => ?_⟩, fun hmax => ⟨fun inp hst ha => ?_, ?_⟩⟩
  · rw [exec_eof, gapSilence_counts hlt]
  · rw [step_sample htick hrst (isBusy_of_receiving (receiving_of_silence (.inr hst))) ha,
      sampleTick_silence_counts (.inr hst) hlt]
    rfl
  · rw [decode_tick_receiving (receiving_of_silence (.inr hst)) ha]
    simp [selected, atLimit, hst, hmax]
  · rw [exec_eof, gapSilence_atLimit hmax]
    refine ⟨fun ho => ?_, fun ho hshort => ?_, fun ho h9 => ⟨_, if_neg (Nat.not_lt.2 h9), ?_⟩⟩
    · rw [endOfFrame_overrun (by exact ho)]
      rfl
    · rw [endOfFrame_runt (by exact ho) (by exact hshort)]
      rfl
    · rw [endOfFrame_complete (by exact ho) (by exact h9)]
      rfl

/-! ### Every step, `NOP` and `READ` -/

/-- Settles O3: a step is a tick or a look, and each is a function. -/
theorem stepAlwaysAnswersNext : Obligations.StepAlwaysAnswersNext := by
  intro s
  cases ha : actionOf s with
  | tick inp => exact ⟨_, step_tick ha⟩
  | look p => exact ⟨_, step_look ha⟩

/-- Settles O10: no command and the codes without one select `NOP`, and the step runs what is selected. -/
theorem nopLeavesEveryRegister : Obligations.NopLeavesEveryRegister := by
  refine ⟨fun s => rfl, fun s inp htick hrst hst hcmd => ?_⟩
  have hnop : decode (tickSelector inp s) = .ok .nop := by
    cases hv : inp.cmdValid with
    | false => exact decode_tick_quiet hst hv
    | true =>
      rw [decode_tick_command hst hv]
      rcases hcmd with h | h | h | h | h
      · simp [hv] at h
      all_goals rw [h]; rfl
  exact ⟨hnop, (stepRunsTheSelectedOperation s .nop).1 inp htick hrst hnop⟩

/-- Settles O11: `READ` is accepted in both states. -/
theorem readArmsTheReceiver : Obligations.ReadArmsTheReceiver := by
  refine fun s hst => ⟨fun inp hv hcmd => ?_, congrArg Host.Outcome.next (whenAccepting_of_accepting _ hst)⟩
  rw [decode_tick_command hst hv, hcmd]
  rfl

end Sys2Proof.Machine

namespace Sys2Proof.Machine

/-! ### Runs of samples -/

/-- `BusyRun as s t`: the samples `as`, one a tick, lead from `s` to `t`, and the block is busy before each of them. -/
inductive BusyRun : List Bool → State → State → Prop where
  | nil (s : State) : BusyRun [] s s
  | cons {a : Bool} {as : List Bool} {s t : State} :
      isBusy s = true → BusyRun as (afterTick (sampleTick a s)) t → BusyRun (a :: as) s t

theorem BusyRun.append {as bs : List Bool} {s t u : State} (h : BusyRun as s t) (h' : BusyRun bs t u) :
    BusyRun (as ++ bs) s u := by
  induction h with
  | nil => exact h'
  | cons hb _ ih => exact .cons hb (ih h')

theorem BusyRun.concat {as : List Bool} {s t : State} (h : BusyRun as s t) (hb : isBusy t = true) (a : Bool) :
    BusyRun (as ++ [a]) s (afterTick (sampleTick a t)) :=
  h.append (.cons hb (.nil _))

/-- The machine, over ticks without reset, runs as their samples do: no command is looked at (R39). -/
theorem BusyRun.runSteps {as : List Bool} {ins : List TickInput} {s t : State} (h : BusyRun as s t)
    (hahead : TicksAhead ins s) (has : samplesOf s.cfg ins = as) :
    (∀ k < ins.length, ∃ u : State, Machine.runSteps k s = .next u ∧ isBusy u = true) ∧
      Machine.runSteps ins.length s = .next t := by
  induction h generalizing ins with
  | nil s =>
    obtain rfl : ins = [] := List.map_eq_nil_iff.1 has
    exact ⟨fun k hk => absurd hk (Nat.not_lt_zero k), rfl⟩
  | @cons a as s t hb _ ih =>
    obtain ⟨inp, ins, rfl, ha, has⟩ := List.map_eq_cons_iff.1 has
    obtain ⟨hrst, hstep, hrest⟩ := hahead.step
    rw [registersAfter_sample hrst hb ha] at hstep hrest
    have hcfg : (afterTick (sampleTick a s)).cfg = s.cfg := (sampleTick_sameOwn a s).cfg
    obtain ⟨hbusy, hend⟩ := ih hrest (by rw [hcfg]; exact has)
    refine ⟨fun k hk => ?_, by rw [List.length_cons, runSteps_succ _ hstep, hend]⟩
    cases k with
    | zero => exact ⟨s, rfl, hb⟩
    | succ k =>
      rw [runSteps_succ k hstep]
      exact hbusy k (Nat.lt_of_succ_lt_succ hk)

/-- `n` ticks have passed since `s`, whose registers are as they were. -/
def afterTicks (n : Nat) (s : State) : State :=
  { s with env := s.env.drop n, tick := s.tick + n }

theorem afterTicks_succ (n : Nat) (s : State) : afterTicks (n + 1) s = afterTicks n (afterTick s) := by
  simp [afterTicks, afterTick, Nat.add_comm, Nat.add_left_comm]

/-- Below `MAXLOOPS` silent samples outside a pulse are counted and do nothing else (R103, R107). -/
theorem busyRun_silence {s : State} (hst : s.st = .awaitStart ∨ s.st = .gap) {n : Nat}
    (hlt : s.gcnt + n < s.cfg.maxLoops) :
    BusyRun (List.replicate n false) s (afterTicks n { s with gcnt := s.gcnt + n }) := by
  induction n generalizing s with
  | zero => exact .nil s
  | succ n ih =>
    refine .cons (isBusy_of_receiving (receiving_of_silence hst)) ?_
    rw [sampleTick_silence_counts hst (by omega), afterTicks_succ, Nat.add_comm n 1, ← Nat.add_assoc]
    exact ih (s := afterTick { s with gcnt := s.gcnt + 1 }) hst (show s.gcnt + 1 + n < s.cfg.maxLoops by omega)

/-- Inside a pulse active samples are counted, saturating, and do nothing else (R104, R109, R116). -/
theorem busyRun_width {s : State} (hst : s.st = .startPulse ∨ s.st = .pulse) (hmax : s.wcnt ≤ s.cfg.wcntMax)
    (n : Nat) :
    BusyRun (List.replicate n true) s (afterTicks n { s with wcnt := min (s.wcnt + n) s.cfg.wcntMax }) := by
  induction n generalizing s with
  | zero =>
    rw [Nat.add_zero, min_eq_left hmax]
    exact .nil s
  | succ n ih =>
    have hmin : min (s.wcnt + (n + 1)) s.cfg.wcntMax = min (min (s.wcnt + 1) s.cfg.wcntMax + n) s.cfg.wcntMax := by
      omega
    refine .cons (isBusy_of_receiving (receiving_of_width hst)) ?_
    rw [sampleTick_active_inPulse hst, afterTicks_succ, hmin]
    exact ih (s := afterTick (countWidth s)) hst (Nat.min_le_right _ _)

/-- A whole pulse: its first active sample begins it (R102, R106), the others are counted. -/
theorem busyRun_pulse {s : State} {f : Fsm} (hst : s.st = .awaitStart ∧ f = .startPulse ∨ s.st = .gap ∧ f = .pulse)
    (hmax : 1 ≤ s.cfg.wcntMax) {w : Nat} (hw : 1 ≤ w) :
    BusyRun (List.replicate w true) s (afterTicks w { s with wcnt := min w s.cfg.wcntMax, st := f }) := by
  obtain ⟨n, rfl⟩ := Nat.exists_eq_add_of_le' hw
  have hr : Receiving s := receiving_of_silence (hst.imp And.left And.left)
  have hf : f = .startPulse ∨ f = .pulse := hst.imp And.right And.right
  have hbegin : sampleTick true s = beginPulse f s := by
    obtain ⟨h, rfl⟩ | ⟨h, rfl⟩ := hst
    · exact sampleTick_awaitStart h true
    · exact sampleTick_gap h true
  refine .cons (isBusy_of_receiving hr) ?_
  rw [hbegin, afterTicks_succ, Nat.add_comm n 1]
  exact busyRun_width (s := afterTick (beginPulse f s)) hf hmax n

theorem TicksAhead.take {ins : List TickInput} {s : State} (h : TicksAhead ins s) (k : Nat) :
    TicksAhead (ins.take k) s := by
  obtain ⟨hrst, more, henv⟩ := h
  refine ⟨fun inp hinp => hrst inp (List.mem_of_mem_take hinp), (ins.drop k).map .tick ++ more, ?_⟩
  rw [henv, ← List.append_assoc, ← List.map_append, List.take_append_drop]

/-- Settles O52: the samples before the last only count, and the last meets the limit (R103). -/
theorem silenceAfterReadTimesOut : Obligations.SilenceAfterReadTimesOut := by
  intro s ins hpos hst hg hahead hlength hsilent
  have hrun {k : Nat} (hk : k < s.cfg.maxLoops) :
      BusyRun (List.replicate k false) s (afterTicks k { s with gcnt := s.gcnt + k }) :=
    busyRun_silence (.inl hst) (by omega)
  refine ⟨fun k hk => ?_, ?_⟩
  · have hsamples : samplesOf s.cfg (ins.take k) = List.replicate k false := by
      rw [samplesOf, List.map_take, ← samplesOf, hsilent, List.take_replicate, min_eq_left hk.le]
    have hend := ((hrun hk).runSteps (hahead.take k) hsamples).2
    rw [List.length_take_of_le (by omega)] at hend
    exact ⟨_, hend, hst⟩
  · obtain ⟨n, hn⟩ := Nat.exists_eq_add_of_le' hpos
    have hlast := (hrun (k := n) (by omega)).concat (isBusy_of_receiving (receiving_of_silence (.inl hst))) false
    rw [← List.replicate_succ', ← hn] at hlast
    have hend := (hlast.runSteps hahead hsilent).2
    have hlimit : s.gcnt + n + 1 = s.cfg.maxLoops := by omega
    rw [sampleTick_awaitStart (by exact hst), if_neg (by simp), startSilence_atLimit (by exact hlimit), hlength] at hend
    exact ⟨_, hend, rfl, rfl, hlimit, rfl, rfl, rfl, rfl, rfl, rfl⟩

/-- Settles O53, by the run inside a pulse. -/
theorem stuckActiveLineHoldsThePulse : Obligations.StuckActiveLineHoldsThePulse := by
  intro s ins hst hahead hactive hmax
  have hsamples : samplesOf s.cfg ins = List.replicate ins.length true := by
    refine List.eq_replicate_iff.2 ⟨List.length_map _, fun a ha => ?_⟩
    obtain ⟨inp, hinp, rfl⟩ := List.mem_map.1 ha
    exact hactive inp hinp
  exact ⟨_, ((busyRun_width hst hmax ins.length).runSteps hahead hsamples).2, rfl, rfl, rfl⟩

end Sys2Proof.Machine

namespace Sys2Proof.Machine

/-! ### The packet does not depend on the phase -/

/-- The packet of `s` in the phase of `p`: `st`, the width and silence counters and the time are those of `p`. -/
def withPhase (p s : State) : State :=
  { s with st := p.st, wcnt := p.wcnt, gcnt := p.gcnt, env := p.env, tick := p.tick }

theorem shiftIn_withPhase (b : Bool) (p s : State) : shiftIn b (withPhase p s) = withPhase p (shiftIn b s) := by
  unfold shiftIn
  rw [apply_ite (withPhase p), apply_ite (withPhase p)]
  rfl

theorem errorCheckEven_withPhase (p s : State) : errorCheckEven (withPhase p s) = withPhase p (errorCheckEven s) := by
  unfold errorCheckEven
  rw [apply_ite (withPhase p), apply_ite (withPhase p)]
  rfl

theorem ecOddRest_withPhase (p s : State) : ecOddRest (withPhase p s) = withPhase p (ecOddRest s) := by
  unfold ecOddRest ecOddChain
  rw [apply_ite (withPhase p), errorCheckEven_withPhase]
  rfl

theorem ecOdd_withPhase (p s : State) : ecOdd (withPhase p s) = withPhase p (ecOdd s) :=
  ecOddRest_withPhase p (xfer 1 s)

theorem errorCheck_withPhase (p s : State) : errorCheck (withPhase p s) = withPhase p (errorCheck s) := by
  unfold errorCheck
  rw [apply_ite (withPhase p), errorCheckEven_withPhase, ecOdd_withPhase]
  rfl

theorem samePacket_withPhase (p s : State) : SamePacket (withPhase { p with st := s.st } s) s :=
  ⟨rfl, rfl, rfl, rfl, rfl, rfl, rfl, rfl, rfl, rfl⟩

/-- The end of a frame gives the same packet and outcome in every phase (R133). -/
theorem endOfFrame_withPhase (p s : State) : SamePacket (endOfFrame (withPhase p s)) (endOfFrame s) := by
  obtain ⟨ho, -⟩ | ⟨ho, hshort, -⟩ | ⟨ho, h9, -⟩ := endOfFrame_cases s
  · rw [endOfFrame_overrun (s := withPhase p s) ho, endOfFrame_overrun ho]
    exact samePacket_withPhase p (raise .overrun s)
  · rw [endOfFrame_runt (s := withPhase p s) ho hshort, endOfFrame_runt ho hshort]
    exact samePacket_withPhase p (raise .runt s)
  · have hfinal : finalize (withPhase p s) = withPhase p (finalize s) := rfl
    rw [endOfFrame_complete (s := withPhase p s) ho h9, endOfFrame_complete ho h9, hfinal, errorCheck_withPhase]
    exact samePacket_withPhase p (completeReception (errorCheck (finalize s)))

theorem SamePacket.afterTick {s t : State} (h : SamePacket s t) : SamePacket (afterTick s) t where
  __ := h

/-! ### The run-length view of a reception -/

/-- The data bits `bits` received since `r` was cleared, in a gap of `g` samples so far. -/
structure InGap (bits : List Bool) (r : State) (g : Nat) (t : State) : Prop where
  packet : withPhase t (assemble bits r) = t
  st : t.st = .gap
  gcnt : t.gcnt = g

/-- Inside a pulse after which `bits` are received: an inactive sample now begins such a gap. -/
structure InPulse (bits : List Bool) (r t : State) : Prop where
  st : t.st = .startPulse ∨ t.st = .pulse
  ends : InGap bits r 1 (afterTick (sampleTick false t))

theorem InPulse.isBusy {bits : List Bool} {r t : State} (h : InPulse bits r t) : isBusy t = true :=
  isBusy_of_receiving (receiving_of_width h.st)

theorem InGap.isBusy {bits : List Bool} {r t : State} {g : Nat} (h : InGap bits r g t) : isBusy t = true :=
  isBusy_of_receiving (receiving_of_silence (.inr h.st))

theorem assemble_cfg (bits : List Bool) (r : State) : (assemble bits r).cfg = r.cfg := by
  rw [(assemble_assembled bits r).frame, initPacket_cfg]

theorem InGap.cfg {bits : List Bool} {r t : State} {g : Nat} (h : InGap bits r g t) : t.cfg = r.cfg :=
  calc t.cfg = (withPhase t (assemble bits r)).cfg := by rw [h.packet]
    _ = r.cfg := assemble_cfg bits r

theorem assemble_concat (bits : List Bool) (b : Bool) (r : State) :
    assemble (bits ++ [b]) r = shiftIn b (assemble bits r) := by
  simp [assemble]

theorem one_le_wcntMax {c : Config.Params} (hc : c.Valid) : 1 ≤ c.wcntMax := by
  obtain ⟨ht0, hthresh, -, -, -, -, -, hle⟩ := hc
  omega

/-- A width that saturates is still on its side of the threshold (R30, R108; R265: `THRESH_TICKS <= WCNT_MAX`). -/
theorem classify_min_wcntMax {c : Config.Params} (hc : c.Valid) (w : Nat) :
    classify c (min w c.wcntMax) = classify c w := by
  obtain ⟨-, -, -, -, -, -, -, hle⟩ := hc
  simp [classify, hle]

/-- The start pulse ends the wait and is no data bit (R105). -/
theorem reception_startPulse {r s : State} (hvalid : s.cfg.Valid) (hs : s = { initPacket r with st := .awaitStart })
    {g0 w0 : Nat} (hg0 : g0 < s.cfg.maxLoops) (hw0 : 1 ≤ w0) :
    ∃ t, BusyRun (List.replicate g0 false ++ List.replicate w0 true) s t ∧ InPulse [] r t := by
  have hst : s.st = .awaitStart := by rw [hs]
  have hgcnt : s.gcnt = 0 := by rw [hs, initPacket_gcnt]
  have hsilence := busyRun_silence (n := g0) (.inl hst) (by omega)
  have hpulse := busyRun_pulse (s := afterTicks g0 { s with gcnt := s.gcnt + g0 }) (.inl ⟨hst, rfl⟩)
    (one_le_wcntMax hvalid) hw0
  refine ⟨_, hsilence.append hpulse, .inl rfl, ?_⟩
  rw [sampleTick_startPulse (by rfl), if_neg (by simp), hs]
  exact ⟨rfl, rfl, rfl⟩

/-- Further silence below `MAXLOOPS` only lengthens the gap (R107). -/
theorem InGap.silence {bits : List Bool} {r t : State} {g k : Nat} (h : InGap bits r g t) (hlt : g + k < r.cfg.maxLoops) :
    ∃ u, BusyRun (List.replicate k false) t u ∧ InGap bits r (g + k) u := by
  have hcount : t.gcnt + k = g + k := by rw [h.gcnt]
  exact ⟨afterTicks k { t with gcnt := t.gcnt + k }, busyRun_silence (.inr h.st) (by rw [hcount, h.cfg]; exact hlt),
    congrArg (fun v : State => afterTicks k { v with gcnt := t.gcnt + k }) h.packet, h.st, hcount⟩

/-- A gap shorter than `MAXLOOPS` does not end the frame (R107). -/
theorem InPulse.gap {bits : List Bool} {r t : State} (h : InPulse bits r t) {g : Nat} (hg : 1 ≤ g)
    (hlt : g < r.cfg.maxLoops) : ∃ u, BusyRun (List.replicate g false) t u ∧ InGap bits r g u := by
  obtain ⟨k, rfl⟩ := Nat.exists_eq_add_of_le hg
  obtain ⟨u, hrun, hu⟩ := h.ends.silence hlt
  rw [Nat.add_comm 1 k] at hu ⊢
  exact ⟨u, .cons h.isBusy hrun, hu⟩

/-- A data pulse adds the bit of its width (R108, R110). -/
theorem InGap.pulse {bits : List Bool} {r t : State} {g : Nat} (h : InGap bits r g t) (hvalid : r.cfg.Valid) {w : Nat}
    (hw : 1 ≤ w) : ∃ u, BusyRun (List.replicate w true) t u ∧ InPulse (bits ++ [classify r.cfg w]) r u := by
  have hmax : 1 ≤ t.cfg.wcntMax := by rw [h.cfg]; exact one_le_wcntMax hvalid
  refine ⟨_, busyRun_pulse (.inr ⟨h.st, rfl⟩) hmax hw, .inr rfl, ?_⟩
  generalize hu : afterTicks w { t with wcnt := min w t.cfg.wcntMax, st := .pulse } = u
  have hpacket : withPhase u (assemble bits r) = u := by
    rw [← hu]
    exact congrArg (fun v : State => afterTicks w { v with wcnt := min w t.cfg.wcntMax, st := .pulse }) h.packet
  have hbit : classify u.cfg u.wcnt = classify r.cfg w := by
    rw [← classify_min_wcntMax hvalid, ← h.cfg, ← hu]
    rfl
  have hstored : withPhase u (assemble (bits ++ [classify r.cfg w]) r) = shiftIn (classify r.cfg w) u := by
    rw [assemble_concat, ← shiftIn_withPhase, hpacket]
  rw [sampleTick_pulse (by rw [← hu]; rfl), if_neg (by simp), hbit, endPulse, ← hstored]
  exact ⟨rfl, rfl, rfl⟩

/-- Every further gap and pulse adds a bit. -/
theorem InPulse.pulses {r : State} (hvalid : r.cfg.Valid) {pulses : List (Nat × Nat)}
    (hpulses : ∀ gw ∈ pulses, 1 ≤ gw.1 ∧ gw.1 < r.cfg.maxLoops ∧ 1 ≤ gw.2) {bits : List Bool} {t : State}
    (h : InPulse bits r t) :
    ∃ u, BusyRun (pulses.flatMap fun gw => List.replicate gw.1 false ++ List.replicate gw.2 true) t u ∧
      InPulse (bits ++ pulses.map fun gw => classify r.cfg gw.2) r u := by
  induction pulses generalizing bits t with
  | nil => exact ⟨t, .nil t, by simpa using h⟩
  | cons gw pulses ih =>
    obtain ⟨hpos, hlt, hwidth⟩ := hpulses gw (by simp)
    obtain ⟨v, hgap, hv⟩ := h.gap hpos hlt
    obtain ⟨w, hpulse, hw⟩ := hv.pulse hvalid hwidth
    obtain ⟨u, hrest, hu⟩ := ih (fun i hi => hpulses i (by simp [hi])) hw
    refine ⟨u, ?_, by simpa using hu⟩
    rw [List.flatMap_cons]
    exact (hgap.append hpulse).append hrest

/-- The `MAXLOOPS`-th silent sample ends the frame, which holds the bits received (R107, R115, R119). -/
theorem InPulse.silence {bits : List Bool} {r t : State} (h : InPulse bits r t) (hloops : 2 ≤ r.cfg.maxLoops) :
    ∃ u, BusyRun (List.replicate r.cfg.maxLoops false) t u ∧ SamePacket u (decodeFrame bits r) := by
  obtain ⟨n, hn⟩ := Nat.exists_eq_add_of_le' (Nat.le_of_succ_le hloops)
  obtain ⟨v, hrun, hv⟩ := h.gap (g := n) (by omega) (by omega)
  have hmax : v.gcnt + 1 = v.cfg.maxLoops := by rw [hv.gcnt, hv.cfg, hn]
  refine ⟨_, by rw [hn, List.replicate_succ']; exact hrun.concat hv.isBusy false, ?_⟩
  have hpacket : { v with gcnt := v.gcnt + 1 } = withPhase { v with gcnt := v.gcnt + 1 } (assemble bits r) :=
    (congrArg (fun w : State => { w with gcnt := v.gcnt + 1 }) hv.packet).symm
  rw [sampleTick_gap hv.st, if_neg (by simp), gapSilence_atLimit hmax, hpacket, decodeFrame_eq]
  exact (endOfFrame_withPhase ..).afterTick

/-- Settles O54: the wave is a start pulse, gaps with their pulses, and the silence that ends the frame. -/
theorem receptionDecodesTheWaveform : Obligations.ReceptionDecodesTheWaveform := by
  intro s r ins g0 w0 pulses hvalid hs hg0 hw0 hpulses hahead hwave
  have hcfg : s.cfg = r.cfg := by rw [hs]; rfl
  obtain ⟨t, hstart, ht⟩ := reception_startPulse hvalid hs hg0 hw0
  rw [hcfg] at hvalid hpulses hwave ⊢
  obtain ⟨u, hdata, hu⟩ := ht.pulses hvalid hpulses
  obtain ⟨-, -, -, -, hloops, -⟩ := hvalid
  obtain ⟨v, hsilence, hv⟩ := hu.silence hloops
  rw [← hcfg] at hwave
  obtain ⟨hbusy, hend⟩ := ((hstart.append hdata).append hsilence).runSteps hahead (by rw [hwave, frameWave, hcfg])
  exact ⟨hbusy, v, hend, hv⟩

end Sys2Proof.Machine

namespace Sys2Proof.Machine

/-! ### The operations of the frame assembler -/

theorem exec_shiftIn (b : Bool) (s : State) : exec (.shiftIn b) s = .next (shiftIn b s) := rfl

/-- `FINALIZE` has a meaning from 9 data bits on (R134, R135). -/
theorem exec_finalize {s : State} (h9 : 9 ≤ s.counter.toNat) : exec .finalize s = .next (finalize s) :=
  if_neg (Nat.not_lt.mpr h9)

theorem exec_finalize_short {s : State} (hshort : s.counter.toNat < 9) :
    exec .finalize s = .fault .finalizeBelowNine :=
  if_pos hshort

/-- The only bit that `FINALIZE` changes in the payload is the one it takes (R134). -/
theorem getLsbD_finalize_payload (s : State) {j : Nat} (hj : j < 32) :
    (finalize s).payload.getLsbD j = if j = s.counter.toNat - 9 then false else s.payload.getLsbD j := by
  rw [finalize_payload, getLsbD_setBit]
  simp only [hj, and_true]

/-- Settles O23, by the three cases of `shiftIn_cases`. -/
theorem shiftInStoresOneBit : Obligations.ShiftInStoresOneBit := by
  intro s b
  rw [exec_shiftIn]
  obtain ⟨hlt, heq⟩ | ⟨hge, hlt, heq⟩ | ⟨hfull, heq⟩ := shiftIn_cases b s <;> rw [heq]
  · refine ⟨fun _ => ⟨_, rfl, fun j hj => ?_⟩, fun _ => by omega, fun _ => by omega⟩
    simp only [getLsbD_setBit, hj, and_true]
  · refine ⟨fun _ => by omega, fun _ _ => ⟨_, rfl, fun j hj => ?_⟩, fun _ => by omega⟩
    simp only [getLsbD_setBit, hj, and_true]
  · exact ⟨fun _ => by omega, fun _ _ => by omega, fun _ => rfl⟩

/-- Settles O24: the payload above the run is clear because the taken bit was the last one stored. -/
theorem finalizeTakesTheParityBitOff : Obligations.FinalizeTakesTheParityBitOff := by
  intro s h9 hmax
  have hcount : (BitVec.ofNat 6 (s.counter.toNat - 9)).toNat = s.counter.toNat - 9 := toNat_ofNat_count (by omega)
  refine ⟨_, _, exec_finalize h9, hcount, fun j hj => getLsbD_finalize_payload s hj, fun hclear => ?_⟩
  exact (finalize_runWithin h9 hmax hclear).clear

/-- Settles O25: both are `raise` of their cause. -/
theorem runtAndOverrunWriteOnlyCauseAndSt : Obligations.RuntAndOverrunWriteOnlyCauseAndSt :=
  fun _ => ⟨rfl, rfl⟩

/-- Settles O26: the stops of `execFinalize` and `execSymbol`. -/
theorem meaninglessOperandsFault : Obligations.MeaninglessOperandsFault :=
  ⟨fun _ hshort => exec_finalize_short hshort, fun _ => rfl⟩

/-! ### Assembling whole packets -/

theorem exec_finalize_assemble {bits : List Bool} (s : State) (h9 : 9 ≤ bits.length) :
    exec .finalize (assemble bits s) = .next (finalize (assemble bits s)) := by
  have hcounter := (assemble_assembled bits s).counter
  exact exec_finalize (by omega)

/-- Settles O27: `FINALIZE` of the state that `SHIFT_IN` of every bit assembles. -/
theorem assemblyPlacesEveryBit : Obligations.AssemblyPlacesEveryBit := by
  intro s t bits h9 hmax hexec
  obtain rfl : finalize (assemble bits s) = t :=
    Host.Outcome.next.inj ((exec_finalize_assemble s h9).symm.trans hexec)
  have h := assemble_assembled bits s
  obtain ⟨hpacket, hpayload⟩ := h.finalize_packet h9 hmax
  refine ⟨fun k hk => ?_, hpayload, ?_, ?_⟩
  · rw [finalize_header, h.header k hk]
  · rw [hpacket]
    exact toNat_ofNat_count (by omega)
  · rw [hpacket]

/-- The pulses after the start pulse (R205). -/
theorem txBits_tail (s : State) : (txBits s).tail = (List.range (s.bitCount.toNat + 9)).map fun k => txBit s (k + 1) := by
  rw [txBits, List.range_succ_eq_map, List.map_cons, List.tail_cons, List.map_map]
  rfl

theorem length_txBits_tail (s : State) : (txBits s).tail.length = s.bitCount.toNat + 9 := by
  rw [txBits_tail, List.length_map, List.length_range]

/-- The data bits of a transmission in arrival order: header, payload, parity bit (R205, R206). -/
theorem getD_txBits_tail (s : State) {k : Nat} (hk : k < s.bitCount.toNat + 9) :
    (txBits s).tail.getD k false =
      if k < 8 then s.header.getLsbD k
      else if k < s.bitCount.toNat + 8 then s.payload.getLsbD (k - 8)
      else s.parityBit := by
  have hget : (txBits s).tail.getD k false = txBit s (k + 1) := by simp [txBits_tail, hk]
  rw [hget, txBit, if_neg (by omega)]
  rfl

/-- Settles O28: by O27 each field gets back the pulses it was sent as, and above the run the payload was clear. -/
theorem assemblyInvertsTxBits : Obligations.AssemblyInvertsTxBits := by
  intro s t u _ _ hmax hclear hexec
  have hlength := length_txBits_tail s
  obtain ⟨hheader, hpayload, hcount, hparity⟩ :=
    assemblyPlacesEveryBit t u (txBits s).tail (by omega) (by omega) hexec
  rw [hlength] at hpayload hcount hparity
  refine ⟨BitVec.eq_of_getLsbD_eq fun k hk => ?_, BitVec.eq_of_getLsbD_eq fun k hk => ?_,
    BitVec.eq_of_toNat_eq hcount, ?_⟩
  · rw [hheader k hk, getD_txBits_tail s (by omega), if_pos hk]
  · rw [hpayload k hk]
    by_cases hrun : k < s.bitCount.toNat
    · rw [getD_txBits_tail s (by omega), if_neg (by omega), if_pos (by omega), decide_eq_true (by omega)]
      rfl
    · rw [decide_eq_false (by omega), getLsbD_false_of_lt hclear (by omega)]
      rfl
  · rw [hparity, getD_txBits_tail s (by omega), if_neg (by omega), if_neg (by omega)]

end Sys2Proof.Machine

namespace Sys2Proof.Machine

/-! ### The parity of a register that is written -/

theorem parUpTo_zero (w n : Nat) : parUpTo (0#w) n = false := by
  induction n with
  | zero => rfl
  | succ n ih => rw [parUpTo, ih, BitVec.getLsbD_zero, Bool.xor_false]

/-- A shift to the left brings in zeros, and the bits that stay keep their parity. -/
theorem parUpTo_shiftLeft {w n k : Nat} (v : BitVec w) (h : k + n ≤ w) : parUpTo (v <<< k) (k + n) = parUpTo v n := by
  have low : parUpTo (v <<< k) k = false := by
    rw [← parUpTo_zero w k]
    refine parUpTo_congr _ _ _ fun j hj => ?_
    simp [BitVec.getLsbD_shiftLeft, hj]
  have high : parUpTo ((v <<< k) >>> k) n = parUpTo v n := by
    refine parUpTo_congr _ _ _ fun j hj => ?_
    rw [BitVec.getLsbD_ushiftRight, BitVec.getLsbD_shiftLeft, decide_eq_true (by omega), decide_eq_false (by omega),
      Nat.add_sub_cancel_left]
    rfl
  rw [parUpTo_add, low, high, Bool.false_xor]

/-- A bit write trades the old bit for the new one. -/
theorem parUpTo_setBit {w i n : Nat} (v : BitVec w) (b : Bool) (hi : i < n) (hn : n ≤ w) :
    parUpTo (setBit v i b) n = (parUpTo v n ^^ v.getLsbD i ^^ b) := by
  induction n with
  | zero => omega
  | succ n ih =>
    rw [parUpTo, parUpTo, getLsbD_setBit]
    by_cases hin : i = n
    · subst hin
      have below : parUpTo (setBit v i b) i = parUpTo v i := parUpTo_congr _ _ _ fun j hj => by
        rw [getLsbD_setBit, if_neg (by omega)]
      rw [below, if_pos ⟨rfl, by omega⟩, Bool.xor_assoc (parUpTo v i), Bool.xor_self, Bool.xor_false]
    · rw [ih (by omega) (by omega), if_neg (by omega), Bool.xor_right_comm, Bool.xor_right_comm (parUpTo v n)]

/-- The copied header bits lie just above the run, so their parity is added to that of the run. -/
theorem parUpTo_copyBits {n k : Nat} (p : Payload) (h : Header) (hn : n + k ≤ 32) :
    parUpTo (copyBits p h n k) (n + k) = (parUpTo p n ^^ parUpTo h k) := by
  have run : parUpTo (copyBits p h n k) n = parUpTo p n := parUpTo_congr _ _ _ fun j hj => by
    rw [getLsbD_copyBits, if_neg (by omega)]
  have copied : parUpTo (copyBits p h n k >>> n) k = parUpTo h k := parUpTo_congr _ _ _ fun j hj => by
    rw [BitVec.getLsbD_ushiftRight, getLsbD_copyBits, if_pos (by omega), Nat.add_sub_cancel_left]
  rw [parUpTo_add, run, copied]

theorem parUpTo_eq_foldl {w : Nat} (v : BitVec w) (n : Nat) :
    parUpTo v n = (List.range n).foldl (fun x j => x ^^ v.getLsbD j) false := by
  induction n with
  | zero => rfl
  | succ n ih => rw [parUpTo, ih, List.range_succ, List.foldl_concat]

/-- The parity of the header, its top `k` bits taken off one by one. -/
theorem parUpTo_header_eq_foldl_top (h : Header) {k : Nat} (hk : k ≤ 8) :
    parUpTo h 8 = (parUpTo h (8 - k) ^^ (List.range k).foldl (fun x j => x ^^ h.getLsbD (7 - j)) false) := by
  induction k with
  | zero => simp
  | succ k ih =>
    have hlen : 8 - k = 7 - k + 1 := by omega
    have hlen' : 8 - (k + 1) = 7 - k := by omega
    rw [ih (by omega), hlen, parUpTo, hlen', List.range_succ, List.foldl_concat, Bool.xor_assoc,
      Bool.xor_comm (h.getLsbD _)]

/-- The parity law of the transfer (R152): the top `k` header bits are lost, the low `k` are doubled. -/
theorem calcParity_xfer {s : State} {k : Nat} (hk : k ≤ 8) (hn : s.bitCount.toNat + k ≤ 32) :
    calcParity (xfer k s) = (calcParity s ^^ (List.range k).foldl (fun x j => x ^^ s.header.getLsbD (7 - j)) false ^^
      (List.range k).foldl (fun x j => x ^^ s.header.getLsbD j) false) := by
  have header : parUpTo (s.header <<< k) 8 = parUpTo s.header (8 - k) := by
    have := parUpTo_shiftLeft (k := k) (n := 8 - k) s.header (by omega)
    rwa [Nat.add_sub_cancel' hk] at this
  unfold calcParity
  rw [xfer_header, xfer_payload, xfer_bitCount_toNat hn, header, parUpTo_copyBits _ _ hn,
    parUpTo_header_eq_foldl_top s.header hk, ← parUpTo_eq_foldl]
  generalize (List.range k).foldl (fun x j => x ^^ s.header.getLsbD (7 - j)) false = top
  generalize parUpTo s.header (8 - k) = rest
  cases top <;> simp

theorem calcParity_xfer_one {s : State} (hn : s.bitCount.toNat + 1 ≤ 32) :
    calcParity (xfer 1 s) = (calcParity s ^^ s.header.getLsbD 7 ^^ s.header.getLsbD 0) := by
  rw [calcParity_xfer (by decide) hn]
  simp

/-- The parity of the four header bits that a transfer of two drops or doubles (R155, R162). -/
abbrev outerBits (h : Header) : Bool :=
  h.getLsbD 7 ^^ h.getLsbD 6 ^^ h.getLsbD 1 ^^ h.getLsbD 0

theorem calcParity_xfer_two {s : State} (hn : s.bitCount.toNat + 2 ≤ 32) :
    calcParity (xfer 2 s) = (calcParity s ^^ outerBits s.header) := by
  rw [calcParity_xfer (by decide) hn]
  simp [List.range_succ, Bool.xor_comm s.header[0]]

/-! ### The parity after each repair -/

/-- `header[1:0]` is written over what stood there. -/
theorem calcParity_setLowTwo (v : BitVec 2) (s : State) :
    calcParity (setLowTwo v s) =
      (calcParity s ^^ (s.header.getLsbD 0 ^^ s.header.getLsbD 1) ^^ (v.getLsbD 0 ^^ v.getLsbD 1)) := by
  unfold calcParity
  rw [setLowTwo_header, setLowTwo_payload, setLowTwo_bitCount, parUpTo_setBit _ _ (by decide) (by decide),
    parUpTo_setBit _ _ (by decide) (by decide), getLsbD_setBit, if_neg (by decide)]
  simp only [Bool.xor_assoc, Bool.xor_comm, Bool.xor_left_comm]

/-- After a transfer of two bits the low header bits are zero (R152). -/
theorem calcParity_setLowTwo_xfer (v : BitVec 2) (s : State) :
    calcParity (setLowTwo v (xfer 2 s)) = (calcParity (xfer 2 s) ^^ (v.getLsbD 0 ^^ v.getLsbD 1)) := by
  rw [calcParity_setLowTwo]
  simp

/-- `EC_ZERO` adds two ones to a zero header (R154). -/
theorem calcParity_ecZero {s : State} (hz : s.header = 0) (hn : s.bitCount.toNat + 2 ≤ 32) :
    calcParity (ecZero s) = calcParity s := by
  rw [ecZero, calcParity_setLowTwo_xfer, calcParity_xfer_two hn, hz]
  simp

/-- `EC_PAR` turns the parity over, but where `outerBits` is odd (R155). -/
theorem calcParity_ecPar {s : State} (hn : s.bitCount.toNat + 2 ≤ 32) :
    calcParity (ecPar s) = !(calcParity s ^^ outerBits s.header) := by
  rw [ecPar, calcParity_setLowTwo_xfer, calcParity_xfer_two hn]
  simp

/-- From a parity that disagrees `EC_PAR` gets one that agrees exactly where `outerBits` is even (R155). -/
theorem calcParity_ecPar_eq_iff {s : State} (hn : s.bitCount.toNat + 2 ≤ 32) (hp : calcParity s ≠ s.parityBit) :
    calcParity (ecPar s) = s.parityBit ↔ outerBits s.header = false := by
  have cancel : ∀ q x : Bool, (q ^^ x) = q ↔ x = false := by decide
  rw [calcParity_ecPar hn, Bool.eq_not.2 hp, Bool.not_xor, Bool.not_not, cancel]

theorem shiftLeft_one_add_one (h : Header) : h <<< 1 + 1 = h <<< 1 ||| 1 := by
  refine BitVec.add_eq_or_of_and_eq_zero _ _ (BitVec.eq_of_getLsbD_eq fun j hj => ?_)
  by_cases h0 : j = 0 <;> simp [h0]

/-- `EC_ODD_FIX` turns the parity of a transferred packet over (R157). -/
theorem calcParity_ecOddFix_xfer (s : State) : calcParity (ecOddFix (xfer 1 s)) = !calcParity (xfer 1 s) := by
  have header : (ecOddFix (xfer 1 s)).header = setBit (xfer 1 s).header 0 true := shiftLeft_one_add_one s.header
  unfold calcParity
  rw [header, ecOddFix_payload, ecOddFix_bitCount, parUpTo_setBit _ _ (by decide) (by decide), xfer_header]
  simp

/-! ### The packet after each repair -/

/-- A mask of `k` ones keeps the low `k` header bits. -/
theorem getLsbD_and_ones (h : Header) (k i : Nat) :
    (h &&& BitVec.ofNat 8 (2 ^ k - 1)).getLsbD i = (h.getLsbD i && decide (i < k)) := by
  rw [BitVec.getLsbD_and, BitVec.getLsbD_ofNat, Nat.testBit_two_pow_sub_one]
  by_cases hi : i < 8
  · rw [decide_eq_true hi, Bool.true_and]
  · rw [BitVec.getLsbD_of_ge h i (by omega), Bool.false_and, Bool.false_and]

/-- Above a clear run the copy is the `k` low header bits put at the end of the run (R152, R155). -/
theorem copyBits_of_clear {p : Payload} {n : Nat} (clear : ClearFrom p n) (h : Header) (k : Nat) :
    copyBits p h n k = p ||| (h &&& BitVec.ofNat 8 (2 ^ k - 1)).setWidth 32 <<< n := by
  refine BitVec.eq_of_getLsbD_eq fun j hj => ?_
  rw [getLsbD_copyBits, BitVec.getLsbD_or, BitVec.getLsbD_shiftLeft, BitVec.getLsbD_setWidth, getLsbD_and_ones]
  by_cases hrun : j < n
  · rw [if_neg (by omega)]
    simp [hrun]
  · have copied : (n ≤ j ∧ j < n + k ∧ j < 32) ↔ j - n < k := by omega
    have width : j - n < 32 := by omega
    rw [clear j (by omega), decide_eq_true hj, decide_eq_false hrun, decide_eq_true width, if_congr copied rfl rfl]
    simp [Bool.and_comm]

/-- A transfer onto a clear run, as one update (R152). -/
theorem xfer_of_clear {s : State} (clear : ClearFrom s.payload s.bitCount.toNat) (k : Nat) :
    xfer k s = { s with
      header := s.header <<< k
      payload := s.payload ||| (s.header &&& BitVec.ofNat 8 (2 ^ k - 1)).setWidth 32 <<< s.bitCount.toNat
      bitCount := s.bitCount + BitVec.ofNat 6 k, incomplete := true } := by
  rw [← copyBits_of_clear clear]
  rfl

/-- Zeros copied above a clear run change nothing (R154, R160). -/
theorem copyBits_of_zeros {p : Payload} {h : Header} {n k : Nat} (clear : ClearFrom p n)
    (zeros : ∀ i < k, h.getLsbD i = false) : copyBits p h n k = p := by
  refine BitVec.eq_of_getLsbD_eq fun j _ => ?_
  rw [getLsbD_copyBits]
  split
  · rw [zeros (j - n) (by omega), clear j (by omega)]
  · rfl

/-- `EC_ZERO` of a zero header transfers two zeros, which a clear run has already (R154). -/
theorem ecZero_of_clear {s : State} (hz : s.header = 0) (clear : ClearFrom s.payload s.bitCount.toNat) :
    ecZero s = { s with header := 3, bitCount := s.bitCount + 2, incomplete := true } := by
  have header : setBit (setBit (s.header <<< 2) 0 true) 1 true = 3 := by rw [hz]; decide
  have payload : copyBits s.payload s.header s.bitCount.toNat 2 = s.payload :=
    copyBits_of_zeros clear fun i _ => by rw [hz]; exact BitVec.getLsbD_zero
  calc ecZero s
    _ = { s with
          header := setBit (setBit (s.header <<< 2) 0 true) 1 true
          payload := copyBits s.payload s.header s.bitCount.toNat 2
          bitCount := s.bitCount + 2, incomplete := true } := rfl
    _ = { s with header := 3, bitCount := s.bitCount + 2, incomplete := true } := by rw [header, payload]

/-- The low header bits that `EC_PAR` writes over the zeros of the shift (R155). -/
theorem setBit_lowTwo_shiftLeft (h : Header) : setBit (setBit (h <<< 2) 0 true) 1 false = h <<< 2 ||| 1 := by
  refine BitVec.eq_of_getLsbD_eq fun j hj => ?_
  rw [getLsbD_setBit, getLsbD_setBit]
  obtain rfl | rfl | hj2 : j = 0 ∨ j = 1 ∨ 2 ≤ j := by omega
  · simp
  · simp
  · rw [if_neg (by omega), if_neg (by omega)]
    simp
    omega

theorem ecPar_of_clear {s : State} (clear : ClearFrom s.payload s.bitCount.toNat) :
    ecPar s = { s with
      header := s.header <<< 2 ||| 1
      payload := s.payload ||| (s.header &&& 3).setWidth 32 <<< s.bitCount.toNat
      bitCount := s.bitCount + 2, incomplete := true } := by
  rw [ecPar, xfer_of_clear clear, ← setBit_lowTwo_shiftLeft]
  rfl

/-! ### Which repair runs -/

theorem errorCheckEven_of_zero {s : State} (hz : s.header = 0) : errorCheckEven s = ecZero s := if_pos hz

theorem errorCheckEven_of_disagrees {s : State} (hnz : s.header ≠ 0) (hp : calcParity s ≠ s.parityBit) :
    errorCheckEven s = ecPar s :=
  (if_neg hnz).trans (if_pos (bne_iff_ne.2 hp))

theorem errorCheckEven_of_agrees {s : State} (hnz : s.header ≠ 0) (hp : calcParity s = s.parityBit) :
    errorCheckEven s = s :=
  (if_neg hnz).trans (if_neg (by simp [hp]))

theorem errorCheck_of_even {s : State} (h : s.bitCount.toNat % 2 = 0) : errorCheck s = errorCheckEven s :=
  if_pos ((isEven_iff _).2 h)

theorem errorCheck_of_odd {s : State} (h : s.bitCount.toNat % 2 = 1) : errorCheck s = ecOdd s :=
  if_neg fun heven => by simp [(isEven_iff _).1 heven] at h

theorem ecOdd_of_disagrees {s : State} (hp : calcParity (xfer 1 s) ≠ s.parityBit) : ecOdd s = ecOddFix (xfer 1 s) :=
  if_pos (bne_iff_ne.2 hp)

theorem ecOdd_of_agrees {s : State} (hp : calcParity (xfer 1 s) = s.parityBit) :
    ecOdd s = errorCheckEven (xfer 1 s) :=
  if_neg (by simp [hp])

/-! ### What ErrorCheck leaves -/

theorem errorCheck_parityBit (s : State) : (errorCheck s).parityBit = s.parityBit :=
  (congrArg State.parityBit (errorCheck_repairs s).frame :)

/-- The count keeps its parity even where it wraps at 64. -/
theorem count_add_mod_two (n : Count6) (k : Nat) : (n + BitVec.ofNat 6 k).toNat % 2 = (n.toNat + k) % 2 := by
  rw [BitVec.toNat_add, BitVec.toNat_ofNat]
  omega

theorem errorCheckEven_even {s : State} (h : s.bitCount.toNat % 2 = 0) : (errorCheckEven s).bitCount.toNat % 2 = 0 := by
  have hx : (xfer 2 s).bitCount.toNat % 2 = 0 := by rw [xfer_bitCount, count_add_mod_two]; omega
  obtain ⟨-, heq⟩ | ⟨-, -, heq⟩ | ⟨-, -, heq⟩ := errorCheckEven_cases s <;> rw [heq]
  · exact hx
  · exact hx
  · exact h

theorem ecOdd_even {s : State} (h : s.bitCount.toNat % 2 = 1) : (ecOdd s).bitCount.toNat % 2 = 0 := by
  have hx : (xfer 1 s).bitCount.toNat % 2 = 0 := by rw [xfer_bitCount, count_add_mod_two]; omega
  by_cases hp : calcParity (xfer 1 s) = s.parityBit
  · rw [ecOdd_of_agrees hp]
    exact errorCheckEven_even hx
  · rw [ecOdd_of_disagrees hp]
    exact hx

/-- The even case mends a parity only by `EC_PAR`, where `outerBits` is even, and breaks none (R162). -/
theorem errorCheckEven_disagrees_iff {s : State} (hn : s.bitCount.toNat + 2 ≤ 32) :
    calcParity (errorCheckEven s) ≠ s.parityBit ↔ calcParity s ≠ s.parityBit ∧
      (s.header = 0 ∨ outerBits s.header = true) := by
  obtain ⟨hz, heq⟩ | ⟨hnz, hp, heq⟩ | ⟨hnz, hp, heq⟩ := errorCheckEven_cases s <;> rw [heq]
  · rw [calcParity_ecZero hz hn]
    simp [hz]
  · rw [ne_eq, calcParity_ecPar_eq_iff hn hp, Bool.not_eq_false]
    simp only [ne_eq, hp, hnz, not_false_eq_true, true_and, false_or]
  · simp [hp]

/-- Both ends of the odd case leave a parity that agrees (R157, R158, R162). -/
theorem calcParity_ecOdd {s : State} (hn : s.bitCount.toNat + 3 ≤ 32) : calcParity (ecOdd s) = s.parityBit := by
  by_cases hp : calcParity (xfer 1 s) = s.parityBit
  · have hcount : (xfer 1 s).bitCount.toNat = s.bitCount.toNat + 1 := xfer_bitCount_toNat (by omega)
    rw [ecOdd_of_agrees hp]
    by_contra hne
    exact ((errorCheckEven_disagrees_iff (by omega)).1 hne).1 hp
  · rw [ecOdd_of_disagrees hp, calcParity_ecOddFix_xfer]
    exact (Bool.eq_not.2 (Ne.symm hp)).symm

/-! ### The operations of the error recovery -/

/-- Settles O29: `parUpTo` is the parity of a count of ones, once for each of the two registers. -/
theorem calcParityCountsOnes : Obligations.CalcParityCountsOnes := by
  intro s
  refine ⟨?_, ?_⟩
  · rw [calcParity, parUpTo_eq_countP, parUpTo_eq_countP]
    simp
    omega
  · rw [← bitValue_eq]
    rfl

/-- Settles O30, by the bits of `copyBits` and the parity law `calcParity_xfer`. -/
theorem transferCopiesThenShifts : Obligations.TransferCopiesThenShifts := by
  intro s k hk hn
  refine ⟨copyBits s.payload s.header s.bitCount.toNat k, rfl, fun j hj => ?_, calcParity_xfer (by omega) hn⟩
  simp only [getLsbD_copyBits, hj, and_true]

/-- Settles O31: `EC_OK` is the last branch of the even case. -/
theorem agreeingFrameIsAcceptedUnmodified : Obligations.AgreeingFrameIsAcceptedUnmodified :=
  ⟨fun _ => rfl, fun _ heven hnz hp => (errorCheck_of_even heven).trans (errorCheckEven_of_agrees hnz hp)⟩

/-- Settles O32: the repaired packet is `ecZero s`, on a clear run. -/
theorem zeroHeaderIsAlwaysRepaired : Obligations.ZeroHeaderIsAlwaysRepaired := by
  intro s hz hn clear
  rw [← ecZero_of_clear hz clear]
  exact ⟨rfl, fun heven => (errorCheck_of_even heven).trans (errorCheckEven_of_zero hz), calcParity_ecZero hz hn⟩

/-- Settles O33: the repaired packet is `ecPar s`, on a clear run. -/
theorem parityMismatchTransfersTwoBits : Obligations.ParityMismatchTransfersTwoBits := by
  intro s t hn clear ht
  obtain rfl : t = ecPar s := ht.trans (ecPar_of_clear clear).symm
  refine ⟨rfl, fun heven hnz hp => (errorCheck_of_even heven).trans (errorCheckEven_of_disagrees hnz hp), fun hp => ?_⟩
  exact calcParity_ecPar_eq_iff hn hp

/-- Settles O34: the transferred packet is `xfer 1 s`, on a clear run. -/
theorem oddLengthTransfersOneBit : Obligations.OddLengthTransfersOneBit := by
  intro s t hn clear ht
  obtain rfl : t = xfer 1 s := ht.trans (xfer_of_clear clear 1).symm
  refine ⟨calcParity_xfer_one hn, fun hp => ⟨?_, rfl, ?_⟩, fun hp => ⟨?_, fun hnz => ?_, fun hz => ?_⟩, fun hodd => ?_⟩
  · exact congrArg Host.Outcome.next (ecOdd_of_disagrees hp)
  · exact (calcParity_ecOddFix_xfer s).trans (Bool.eq_not.2 (Ne.symm hp)).symm
  · exact congrArg Host.Outcome.next (ecOdd_of_agrees hp)
  · exact congrArg Host.Outcome.next (errorCheckEven_of_agrees hnz hp)
  · exact congrArg Host.Outcome.next (errorCheckEven_of_zero hz)
  · exact congrArg Host.Outcome.next (errorCheck_of_odd hodd).symm

/-- Settles O35, by the frame of every repair. -/
theorem oddCaseOperationsComplete : Obligations.OddCaseOperationsComplete := by
  intro s
  obtain ⟨⟨frame, -⟩, hincomplete⟩ := ecOdd_repairs s
  rw [hincomplete] at frame
  exact ⟨rfl, ⟨ecOdd s, rfl, frame⟩, errorCheckEven s, rfl, (errorCheckEven_repairs s).frame,
    fun hz => congrArg Host.Outcome.next (errorCheckEven_of_zero hz).symm,
    fun hnz hp => congrArg Host.Outcome.next (errorCheckEven_of_disagrees hnz hp).symm,
    fun hnz hp => congrArg Host.Outcome.next (errorCheckEven_of_agrees hnz hp).symm⟩

/-- Settles O36: the three even rows are O31, O32 and O33, the three odd ones end the transfer of one bit. -/
theorem errorCheckTakesOneOfSixPaths : Obligations.ErrorCheckTakesOneOfSixPaths := by
  rintro s p1 hn clear rfl
  have hx := xfer_of_clear clear 1
  rw [← calcParity_xfer_one (by omega)]
  refine ⟨fun heven => ?_, fun heven hz => ?_, fun heven hnz hp => ?_, fun hodd hp => ?_, fun hodd hp hnz => ?_,
    fun hodd hp hz => ?_⟩
  · exact agreeingFrameIsAcceptedUnmodified.2 s heven
  · rw [errorCheck_of_even heven, errorCheckEven_of_zero hz, ecZero_of_clear hz clear]
  · rw [errorCheck_of_even heven, errorCheckEven_of_disagrees hnz hp, ecPar_of_clear clear]
  · rw [errorCheck_of_odd hodd, ecOdd_of_disagrees hp, hx, ← shiftLeft_one_add_one]
    rfl
  · rw [errorCheck_of_odd hodd, ecOdd_of_agrees hp, errorCheckEven_of_agrees hnz hp, hx]
    rfl
  · have run := xfer_runWithin (k := 1) ⟨hn, clear⟩ (by decide)
    have payload : (xfer 1 s).payload = s.payload :=
      copyBits_of_zeros clear fun i hi => by
        rw [Nat.lt_one_iff.1 hi]
        simpa using congrArg (BitVec.getLsbD · 1) hz
    have count : s.bitCount + 1 + 2 = s.bitCount + 3 := BitVec.add_assoc _ _ _
    rw [errorCheck_of_odd hodd, ecOdd_of_agrees hp, errorCheckEven_of_zero hz, ecZero_of_clear hz run.clear, payload,
      ← count]
    rfl

/-- Settles O37: the even case adds 2 or nothing, the odd case adds 1 before it. -/
theorem errorCheckEndsWithEvenBitCount : Obligations.ErrorCheckEndsWithEvenBitCount := by
  intro s
  obtain heven | hodd := Nat.mod_two_eq_zero_or_one s.bitCount.toNat
  · rw [errorCheck_of_even heven]
    exact errorCheckEven_even heven
  · rw [errorCheck_of_odd hodd]
    exact ecOdd_even hodd

/-- Settles O38: the odd case always ends with a parity that agrees, the even case by `errorCheckEven_disagrees_iff`. -/
theorem parityFailsInExactlyTwoSituations : Obligations.ParityFailsInExactlyTwoSituations := by
  intro s hn _
  rw [errorCheck_parityBit]
  obtain heven | hodd := Nat.mod_two_eq_zero_or_one s.bitCount.toNat
  · rw [errorCheck_of_even heven, errorCheckEven_disagrees_iff (by omega)]
    exact (and_iff_right heven).symm
  · rw [errorCheck_of_odd hodd, calcParity_ecOdd (by omega)]
    simp [hodd]

end Sys2Proof.Machine

namespace Sys2Proof.Machine

/-! ### The Unique word -/

/-- The two fields of an operand make it up again (R81, R184). -/
theorem uniqueOf_argFields (arg : UniqueWord) : uniqueOf (argHeader arg) ((argPayload arg).setWidth 32) = arg := by
  apply BitVec.eq_of_toNat_eq
  rw [uniqueOf_toNat, argPayload_setWidth, argHeader_eq, BitVec.toNat_setWidth, BitVec.toNat_ushiftRight,
    Nat.shiftRight_eq_div_pow]
  have := arg.isLt
  omega

/-- The payload is added as a multiple of 256, so the low byte is the header, whatever the payload (R184). -/
theorem argHeader_uniqueOf (h : Header) (p : Payload) : argHeader (uniqueOf h p) = h := by
  apply BitVec.eq_of_toNat_eq
  rw [argHeader_eq, BitVec.toNat_setWidth, uniqueOf_toNat]
  have := h.isLt
  omega

/-- Shifted by 8, a payload of at most 24 bits loses nothing above bit 31 (R184). -/
theorem argPayload_uniqueOf (h : Header) {p : Payload} (hp : p.toNat < 2 ^ 24) :
    (argPayload (uniqueOf h p)).setWidth 32 = p := by
  apply BitVec.eq_of_toNat_eq
  rw [argPayload_setWidth, BitVec.toNat_ushiftRight, Nat.shiftRight_eq_div_pow, uniqueOf_toNat]
  have := h.isLt
  omega

/-! ### Accessors -/

/-- The accessor behind a port hands out the value on it (R88, R57). -/
theorem exec_decodePort (p : Port) (s : State) : exec (decodePort p) s = .next (handOut (portValue p s) s) := by
  cases p <;> rfl

theorem exec_decodePort_of_value {p : Port} {s : State} {v : BitVec 32} (h : portValue p s = v) :
    exec (decodePort p) s = .next { s with result := v } := by
  rw [exec_decodePort, h]
  rfl

theorem setWidth_eq_ofNat {w m n : Nat} {v : BitVec w} (h : v.toNat = n) : v.setWidth m = BitVec.ofNat m n := by
  rw [← h, BitVec.ofNat_toNat]

theorem bitRangeOf_eq (p : Payload) (first last : BitVec 5) :
    bitRangeOf p first last =
      if first.toNat ≤ last.toNat then
        BitVec.ofNat 32 (p.toNat / 2 ^ first.toNat % 2 ^ (last.toNat - first.toNat + 1))
      else 0 := by
  rw [← BitVec.setWidth_eq (bitRangeOf p first last), setWidth_eq_ofNat (bitRangeOf_toNat p first last)]
  split <;> rfl

theorem uniqueOf_eq (h : Header) (p : Payload) : uniqueOf h p = BitVec.ofNat 32 (h.toNat + p.toNat * 256) :=
  BitVec.eq_of_toNat_eq ((uniqueOf_toNat h p).trans (BitVec.toNat_ofNat ..).symm)

/-- Settles O39: each accessor hands out the value on its port, and the laws of the operand forms say which number it is. -/
theorem accessorsHandOutTheirValue : Obligations.AccessorsHandOutTheirValue := fun s => ⟨
  exec_decodePort_of_value (p := .priority) (setWidth_eq_ofNat (priorityOf_toNat s.header)),
  exec_decodePort_of_value (p := .address) (setWidth_eq_ofNat (addressOf_toNat s.header)),
  fun sel => exec_decodePort_of_value (p := .byte sel) (setWidth_eq_ofNat (byteOf_toNat s.payload sel)),
  fun first last => exec_decodePort_of_value (p := .bitrange first last) (bitRangeOf_eq s.payload first last),
  exec_decodePort_of_value (p := .unique) (uniqueOf_eq s.header s.payload),
  exec_decodePort_of_value (p := .sent) (bitValue_eq s.sent),
  exec_decodePort_of_value (p := .incomplete) (bitValue_eq s.incomplete)⟩

/-! ### SET and the Unique word -/

theorem exec_set {s : State} (hst : s.st = .idle ∨ s.st = .done) (arg : UniqueWord) :
    exec (.set arg) s = .next { loadPacket arg s with st := .done } :=
  congrArg Host.Outcome.next (whenAccepting_of_accepting _ hst)

/-- Settles O41: `SET` splits its operand into the two fields that the Unique word adds up. -/
theorem uniqueRoundTripsThroughSet : Obligations.UniqueRoundTripsThroughSet := by
  refine ⟨fun s t u arg hst hset hunique => ?_, fun s t hst hp hset => ?_⟩
  · obtain rfl := Host.Outcome.next.inj ((exec_set hst arg).symm.trans hset)
    obtain rfl := Host.Outcome.next.inj ((exec_decodePort .unique _).symm.trans hunique)
    exact uniqueOf_argFields arg
  · obtain rfl := Host.Outcome.next.inj ((exec_set hst _).symm.trans hset)
    exact ⟨argHeader_uniqueOf s.header s.payload, argPayload_uniqueOf s.header hp⟩

end Sys2Proof.Machine

namespace Sys2Proof.Machine

/-! ### The list of pulses -/

theorem txBits_eq_cons (s : State) : txBits s = true :: (txBits s).tail := by
  rw [txBits, List.range_succ_eq_map]
  rfl

theorem txBit_header (s : State) {j : Nat} (hj : j < 8) : txBit s (j + 1) = s.header.getLsbD j := by
  rw [txBit, if_neg (by omega), if_pos (by omega), Nat.add_sub_cancel]

theorem txBit_payload (s : State) {j : Nat} (hj : j < s.bitCount.toNat) :
    txBit s (8 + j + 1) = s.payload.getLsbD j := by
  rw [txBit, if_neg (by omega), if_neg (by omega), if_pos (by omega), show 8 + j + 1 - 9 = j by omega]

/-- The last pulse is the register, whatever the parity of the packet is (R206). -/
theorem txBit_parity (s : State) : txBit s (8 + s.bitCount.toNat + 1) = s.parityBit := by
  rw [txBit, if_neg (by omega), if_neg (by omega), if_neg (by omega)]

/-- Settles O47: the pulses after the start pulse, split at positions 9 and `bitCount + 9`. -/
theorem txBitsListsThePulses : Obligations.TxBitsListsThePulses := by
  intro s
  have hheader : (List.range 8).map (fun j => txBit s (j + 1)) = (List.range 8).map (fun j => s.header.getLsbD j) :=
    List.map_congr_left fun j hj => txBit_header s (List.mem_range.1 hj)
  have hpayload : (List.range s.bitCount.toNat).map (fun j => txBit s (8 + j + 1)) =
      (List.range s.bitCount.toNat).map (fun j => s.payload.getLsbD j) :=
    List.map_congr_left fun j hj => txBit_payload s (List.mem_range.1 hj)
  rw [← hheader, ← hpayload, ← txBit_parity s, txBits_eq_cons, txBits_tail,
    show s.bitCount.toNat + 9 = 8 + s.bitCount.toNat + 1 by omega, List.range_succ, List.range_add, List.map_append,
    List.map_append, List.map_map]
  rfl

/-! ### The length of a packet -/

theorem mem_evenLengths_iff (n : Nat) : n ∈ evenLengths ↔ n % 2 = 0 ∧ 2 ≤ n ∧ n ≤ 24 := by
  simp only [evenLengths, List.mem_map, List.mem_range]
  constructor
  · rintro ⟨k, hk, rfl⟩
    omega
  · rintro ⟨heven, hpos, hmax⟩
    exact ⟨n / 2 - 1, by omega, by omega⟩

/-- Settles O15: of the listed lengths it is the least that covers `v`, and a length past the list is no smaller. -/
theorem minEvenBitsIsLeast : Obligations.MinEvenBitsIsLeast := by
  intro v
  obtain ⟨n, hmem, hn, hcovers, hleast⟩ := minEvenBits_cases v
  obtain ⟨heven, hpos, hmax⟩ := (mem_evenLengths_iff n).1 hmem
  rw [hn]
  refine ⟨heven, hpos, hmax, (ushiftRight_eq_zero_iff v n).2 hcovers, fun m hmeven hmpos hm => ?_⟩
  by_contra hlt
  have hlisted : m ∈ evenLengths := (mem_evenLengths_iff m).2 ⟨hmeven, hmpos, by omega⟩
  exact hleast m hlisted (by omega) ((ushiftRight_eq_zero_iff v m).1 hm)

/-! ### The packet of SET -/

/-- The parity is a function of three registers (R150). -/
theorem calcParity_congr {s t : State} (hheader : s.header = t.header) (hpayload : s.payload = t.payload)
    (hcount : s.bitCount = t.bitCount) : calcParity s = calcParity t := by
  rw [calcParity, calcParity, hheader, hpayload, hcount]

/-- `SET` without its last statement, as one update (R201). -/
theorem loadPacket_eq (arg : UniqueWord) (s : State) :
    loadPacket arg s = { initPacket s with
      header := arg.setWidth 8, payload := arg >>> 8, bitCount := minEvenBits (argPayload arg)
      parityBit := calcParity (loadFields arg s) } := by
  rw [← argHeader_eq, ← argPayload_setWidth]
  rfl

/-- Settles O13: the parity is that of the fields just loaded. -/
theorem setLoadsThePacket : Obligations.SetLoadsThePacket := by
  refine fun s arg hst => ⟨fun inp hv hcmd harg => ?_, loadFields arg s, ?_, argHeader_eq arg, argPayload_setWidth arg,
    rfl⟩
  · rw [decode_tick_command hst hv, hcmd, harg]
    rfl
  · rw [exec_set hst, loadPacket_eq]
    rfl

/-- The stored parity is that of the packet it is stored in (R204). -/
theorem calcParity_loadPacket (arg : UniqueWord) (s : State) :
    calcParity (loadPacket arg s) = (loadPacket arg s).parityBit :=
  calcParity_congr rfl rfl rfl

/-- Settles O14: the length by O15, the parity and the Unique word by the fields that were loaded. -/
theorem setPacketIsWellFormed : Obligations.SetPacketIsWellFormed := by
  intro s t arg hst hset
  obtain rfl := Host.Outcome.next.inj ((exec_set hst arg).symm.trans hset)
  obtain ⟨heven, hpos, hmax, hcovers, hleast⟩ := minEvenBitsIsLeast (argPayload arg)
  have hpayload : (loadPacket arg s).payload.toNat = (argPayload arg).toNat :=
    BitVec.toNat_setWidth_of_le (by decide)
  refine ⟨heven, hpos, hmax, fun n hneven hnpos hn => hleast n hneven hnpos ?_, ?_, calcParity_loadPacket arg s,
    uniqueOf_argFields arg, rfl, rfl⟩
  · exact (ushiftRight_eq_zero_iff _ n).2 (hpayload.symm.trans_lt hn)
  · exact hpayload.trans_lt ((ushiftRight_eq_zero_iff _ _).1 hcovers)

/-! ### Loop back -/

/-- A packet as `SET` leaves it, whose header is not zero, is received as it was sent: by O28 the frame assembler gives it
back, and by O31 ErrorCheck has nothing to repair (R216). -/
theorem decodeFrame_txBits {p : State} (r : State) (hnz : p.header ≠ 0) (heven : p.bitCount.toNat % 2 = 0)
    (hpos : 2 ≤ p.bitCount.toNat) (hmax : p.bitCount.toNat ≤ 24) (hclear : p.payload.toNat < 2 ^ p.bitCount.toNat)
    (hparity : calcParity p = p.parityBit) :
    decodeFrame (txBits p).tail r = { initPacket r with
      header := p.header, payload := p.payload, bitCount := p.bitCount, parityBit := p.parityBit
      counter := BitVec.ofNat 6 (p.bitCount.toNat + 9), sent := true, st := .done } := by
  have hlength := length_txBits_tail p
  have h := assemble_assembled (txBits p).tail r
  have hend := h.endOfFrame_fits (by omega) (by omega)
  obtain ⟨hframe, -⟩ := h.finalize_packet (by omega) (by omega)
  obtain ⟨hheader, hpayload, hcount, hbit⟩ :=
    assemblyInvertsTxBits p r _ heven hpos hmax hclear (exec_finalize_assemble r (by omega))
  generalize finalize (assemble (txBits p).tail r) = f at *
  have hagrees : errorCheck f = f := by
    refine agreeingFrameIsAcceptedUnmodified.2 f ?_ ?_ ?_
    · rwa [hcount]
    · rwa [hheader]
    · rw [calcParity_congr hheader hpayload hcount, hbit, hparity]
  have hreceived : f = { initPacket r with
      header := f.header, payload := f.payload, bitCount := f.bitCount, parityBit := f.parityBit
      counter := BitVec.ofNat 6 (p.bitCount.toNat + 9) } := by
    rw [hlength] at hframe
    rw [hframe]
  rw [decodeFrame_eq, hend, hagrees, hreceived, hheader, hpayload, hcount, hbit]
  rfl

/-- Settles O51: the packet of `SET` is one that a receiver gives back, by O14. -/
theorem loopBackGivesThePacketBack : Obligations.LoopBackGivesThePacketBack := by
  intro s t r u arg hst hset hnz hdecode
  obtain ⟨heven, hpos, hmax, -, hclear, hparity, -⟩ := setPacketIsWellFormed s t arg hst hset
  rw [decodeFrame_txBits r hnz heven hpos hmax hclear hparity] at hdecode
  subst hdecode
  exact ⟨rfl, rfl, rfl, rfl, rfl, rfl, rfl, rfl⟩

/-! ### SEND and SETSEND -/

theorem exec_send {s : State} (hst : s.st = .idle ∨ s.st = .done) : exec .send s = .next (beginSend s) :=
  congrArg Host.Outcome.next (whenAccepting_of_accepting _ hst)

theorem exec_setsend {s : State} (hst : s.st = .idle ∨ s.st = .done) (arg : UniqueWord) :
    exec (.setsend arg) s = .next (beginSend (loadPacket arg s)) :=
  congrArg Host.Outcome.next (whenAccepting_of_accepting _ hst)

theorem beginSend_skips {s : State} (h : s.cfg.hasTx = false ∨ s.bitCount = 0) :
    beginSend s = { s with cause := 5, st := .done } :=
  if_pos h

theorem beginSend_waits {s : State} (hx : s.cfg.hasTx = true) (hb : s.bitCount ≠ 0) :
    beginSend s = { s with
      cause := 0, icnt := 0, bcnt := 0, txidx := 0, tcnt := 0, lineOutR := false, st := .txWait } :=
  if_neg (by simpa [hx] using hb)

/-- Settles O16, by the two arms of R207. -/
theorem sendBeginsOrIsSkipped : Obligations.SendBeginsOrIsSkipped := by
  refine fun s hst => ⟨fun inp hv hcmd => ?_, fun hskip => ?_, fun hx hb => ?_⟩
  · rw [decode_tick_command hst hv, hcmd]
    rfl
  · rw [exec_send hst, beginSend_skips hskip]
  · rw [exec_send hst, beginSend_waits hx hb]

/-- The packet of `SET` is never empty, so `SEND` skips it only without a transmitter (R202, R214). -/
theorem loadPacket_bitCount_ne_zero (arg : UniqueWord) (s : State) : (loadPacket arg s).bitCount ≠ 0 := by
  intro hzero
  obtain ⟨-, hpos, -⟩ := minEvenBitsIsLeast (argPayload arg)
  have hcount : minEvenBits (argPayload arg) = 0 := hzero
  simp [hcount] at hpos

/-- Settles O17: `SEND` does not look at the `st` that `SET` writes last. -/
theorem setsendIsSetThenSend : Obligations.SetsendIsSetThenSend := by
  refine fun s arg hst => ⟨fun inp hv hcmd harg => ?_,
    { loadPacket arg s with st := .done }, beginSend { loadPacket arg s with st := .done }, exec_set hst arg,
    exec_send (.inr rfl), ?_, fun hx => ?_, fun hx => ?_⟩
  · rw [decode_tick_command hst hv, hcmd, harg]
    rfl
  · rw [exec_setsend hst]
    exact congrArg Host.Outcome.next (beginSend_with_st _ .done).symm
  · exact beginSend_skips (.inl hx)
  · exact beginSend_waits (by exact hx) (loadPacket_bitCount_ne_zero arg s)

end Sys2Proof.Machine

namespace Sys2Proof.Machine

/-! ### The idle wait -/

theorem isBusy_of_sending {s : State} (h : Sending s) : isBusy s = true := by
  rcases h with h | h | h <;> simp [isBusy, h]

/-- During a transmission the state and its counters select the operation (R88). -/
theorem decode_tick_sending {s : State} (inp : TickInput) (h : Sending s) :
    decode (tickSelector inp s) = selected s.st (sampleOf s.cfg inp) (atLimit (sampleOf s.cfg inp) s) :=
  decode_tick_busy (isBusy_of_sending h)

theorem sampleTick_txWait {s : State} (h : s.st = .txWait) (a : Bool) :
    sampleTick a s = if a then busySample s else idleSample s := by
  simp [sampleTick, h]

theorem exec_txIdleOk (s : State) : exec .txIdleOk s = .next (idleSample s) := rfl

theorem exec_txAbort (s : State) : exec .txAbort s = .next (busySample s) := rfl

theorem idleSample_atLimit {s : State} (hmax : s.icnt + 1 = s.cfg.waitLoops) :
    idleSample s = { s with
      bcnt := 0, icnt := s.icnt + 1, txidx := 0, tcnt := 0, lineOutR := true, st := .txActive } :=
  if_pos hmax

theorem idleSample_counts {s : State} (hlt : s.icnt + 1 ≠ s.cfg.waitLoops) :
    idleSample s = { s with bcnt := 0, icnt := s.icnt + 1 } :=
  if_neg hlt

theorem busySample_atLimit {s : State} (hmax : s.bcnt + 1 = s.cfg.maxLoops) :
    busySample s = { s with icnt := 0, bcnt := s.bcnt + 1, cause := 4, st := .done } :=
  if_pos hmax

theorem busySample_counts {s : State} (hlt : s.bcnt + 1 ≠ s.cfg.maxLoops) :
    busySample s = { s with icnt := 0, bcnt := s.bcnt + 1 } :=
  if_neg hlt

/-- Settles O44, by the two arms of R209. -/
theorem idleSamplesLeadToTheStartPulse : Obligations.IdleSamplesLeadToTheStartPulse := by
  refine fun s => ⟨fun inp hst ha hmax => ?_, fun hmax => ?_, fun hlt => ?_, fun inp htick hrst hst ha hlt => ?_⟩
  · rw [decode_tick_sending inp (.inl hst), ha]
    simp [selected, atLimit, hst, hmax]
  · rw [exec_txIdleOk, idleSample_atLimit hmax]
  · rw [exec_txIdleOk, idleSample_counts hlt]
  · rw [step_sample htick hrst (isBusy_of_sending (.inl hst)) ha, sampleTick_txWait hst, if_neg (by simp),
      idleSample_counts hlt]
    rfl

/-- Settles O45, by the two arms of R208. -/
theorem busySamplesLeadToTheAbort : Obligations.BusySamplesLeadToTheAbort := by
  refine fun s => ⟨fun inp hst ha hmax => ?_, fun hmax => ?_, fun hlt => ?_, fun inp htick hrst hst ha hlt => ?_⟩
  · rw [decode_tick_sending inp (.inl hst), ha]
    simp [selected, atLimit, hst, hmax]
  · rw [exec_txAbort, busySample_atLimit hmax]
  · rw [exec_txAbort, busySample_counts hlt]
  · rw [step_sample htick hrst (isBusy_of_sending (.inl hst)) ha, sampleTick_txWait hst, if_pos rfl,
      busySample_counts hlt]
    rfl

/-! ### The two parts of a slot -/

theorem exec_sendbit_active (s : State) : exec (.sendbit .active) s = .next (slotActive s) := rfl

theorem exec_sendbit_rest (s : State) : exec (.sendbit .rest) s = .next (slotRest s) := rfl

theorem slotActive_ends {s : State} (hend : s.tcnt + 1 = activeTicks s.cfg (txBit s s.txidx.toNat)) :
    slotActive s = { s with tcnt := s.tcnt + 1, lineOutR := false, st := .txRest } :=
  if_pos hend

theorem slotActive_counts {s : State} (hlt : s.tcnt + 1 ≠ activeTicks s.cfg (txBit s s.txidx.toNat)) :
    slotActive s = { s with tcnt := s.tcnt + 1 } :=
  if_neg hlt

theorem slotRest_counts {s : State} (hlt : s.tcnt + 1 ≠ s.cfg.slotTicks) :
    slotRest s = { s with tcnt := s.tcnt + 1 } :=
  if_neg hlt

theorem slotRest_begins {s : State} (hslot : s.tcnt + 1 = s.cfg.slotTicks)
    (hmore : s.txidx.toNat ≠ s.bitCount.toNat + 9) :
    slotRest s = { s with txidx := s.txidx + 1, tcnt := 0, lineOutR := true, st := .txActive } :=
  (if_pos hslot).trans (if_neg hmore)

theorem slotRest_ends {s : State} (hslot : s.tcnt + 1 = s.cfg.slotTicks)
    (hlast : s.txidx.toNat = s.bitCount.toNat + 9) :
    slotRest s = { s with tcnt := s.tcnt + 1, sent := true, st := .done } :=
  (if_pos hslot).trans (if_pos hlast)

theorem sampleTick_txActive {s : State} (h : s.st = .txActive) (a : Bool) : sampleTick a s = slotActive s := by
  simp [sampleTick, h]

theorem sampleTick_txRest {s : State} (h : s.st = .txRest) (a : Bool) : sampleTick a s = slotRest s := by
  simp [sampleTick, h]

/-- Settles O46, by the arms of R210 and R211; the further condition of `TX_REST` is that of R212. -/
theorem slotRunsItsTwoParts : Obligations.SlotRunsItsTwoParts := by
  refine fun s inp => ⟨fun hst => ?_, fun hend => ?_, fun hlt => ?_, fun hst hmore => ?_, fun hlt => ?_,
    fun hslot hmore => ?_, fun hslot hlast => ?_, fun hst hslot hlast => ?_, rfl⟩
  · rw [decode_tick_sending inp (.inr (.inl hst)), hst]
    rfl
  · rw [exec_sendbit_active, slotActive_ends hend]
  · rw [exec_sendbit_active, slotActive_counts hlt]
  · rw [decode_tick_sending inp (.inr (.inr hst))]
    simp [selected, atLimit, hst, hmore]
  · rw [exec_sendbit_rest, slotRest_counts hlt]
  · rw [exec_sendbit_rest, slotRest_begins hslot hmore]
  · rw [exec_sendbit_rest, slotRest_ends hslot hlast]
  · rw [decode_tick_sending inp (.inr (.inr hst))]
    simp [selected, atLimit, hst, hslot, hlast]

end Sys2Proof.Machine

namespace Sys2Proof.Machine

/-! ### The waveform of a transmission -/

/-- `s` in tick `j` of the slot of pulse `i`: the line is driven in the first `T(b)` ticks of the slot (R210, R211). -/
def inSlot (i j : Nat) (s : State) : State :=
  { s with
    txidx := BitVec.ofNat 6 i
    tcnt := j
    lineOutR := decide (j < activeTicks s.cfg (txBit s i))
    st := if j < activeTicks s.cfg (txBit s i) then .txActive else .txRest }

theorem inSlot_active {s : State} {i j : Nat} (h : j < activeTicks s.cfg (txBit s i)) :
    inSlot i j s = { s with txidx := BitVec.ofNat 6 i, tcnt := j, lineOutR := true, st := .txActive } := by
  rw [inSlot, decide_eq_true h, if_pos h]

theorem inSlot_rest {s : State} {i j : Nat} (h : ¬ j < activeTicks s.cfg (txBit s i)) :
    inSlot i j s = { s with txidx := BitVec.ofNat 6 i, tcnt := j, lineOutR := false, st := .txRest } := by
  rw [inSlot, decide_eq_false h, if_neg h]

theorem sending_inSlot (i j : Nat) (s : State) : Sending (inSlot i j s) := by
  by_cases h : j < activeTicks s.cfg (txBit s i)
  · exact .inr (.inl (if_pos h))
  · exact .inr (.inr (if_neg h))

theorem inSlot_txidx_toNat {i : Nat} (j : Nat) (s : State) (hi : i < 64) : (inSlot i j s).txidx.toNat = i :=
  toNat_ofNat_count hi

/-- Inside a slot a tick is counted, and the line goes with the count (R210, R211). -/
theorem sampleTick_inSlot {s : State} {i j : Nat} (hi : i < 64) (hj : j + 1 < s.cfg.slotTicks) (a : Bool) :
    sampleTick a (inSlot i j s) = inSlot i (j + 1) s := by
  have hidx := inSlot_txidx_toNat j s hi
  by_cases hactive : j < activeTicks s.cfg (txBit s i)
  · have hst : (inSlot i j s).st = .txActive := if_pos hactive
    rw [sampleTick_txActive hst]
    by_cases hend : j + 1 = activeTicks s.cfg (txBit s i)
    · rw [slotActive_ends (by rw [hidx]; exact hend), inSlot_active hactive, inSlot_rest (by omega)]
    · rw [slotActive_counts (by rw [hidx]; exact hend), inSlot_active hactive, inSlot_active (by omega)]
  · have hst : (inSlot i j s).st = .txRest := if_neg hactive
    rw [sampleTick_txRest hst, slotRest_counts hj.ne, inSlot_rest hactive, inSlot_rest (by omega)]

/-- The last tick of a slot lies in its rest (R265). -/
theorem sampleTick_slotEnd {s : State} {i j : Nat} (hvalid : s.cfg.Valid) (hj : j + 1 = s.cfg.slotTicks) (a : Bool) :
    sampleTick a (inSlot i j s) = slotRest (inSlot i j s) := by
  obtain ⟨-, hlt⟩ := activeTicks_bounds hvalid (txBit s i)
  exact sampleTick_txRest (if_neg (by omega)) a

/-- The slots follow each other (R211). -/
theorem sampleTick_inSlot_next {s : State} {i j : Nat} (hvalid : s.cfg.Valid) (hi : i < 64)
    (hj : j + 1 = s.cfg.slotTicks) (hmore : i ≠ s.bitCount.toNat + 9) (a : Bool) :
    sampleTick a (inSlot i j s) = inSlot (i + 1) 0 s := by
  obtain ⟨hpos, -⟩ := activeTicks_bounds hvalid (txBit s (i + 1))
  rw [sampleTick_slotEnd hvalid hj, slotRest_begins hj (by rw [inSlot_txidx_toNat j s hi]; exact hmore),
    inSlot_active (i := i + 1) (j := 0) hpos, BitVec.ofNat_add]
  rfl

/-- The last slot ends the transmission (R212). -/
theorem sampleTick_inSlot_last {s : State} {j : Nat} (hvalid : s.cfg.Valid) (hcount : s.bitCount.toNat ≤ 32)
    (hj : j + 1 = s.cfg.slotTicks) (a : Bool) :
    sampleTick a (inSlot (s.bitCount.toNat + 9) j s) = { s with
      txidx := BitVec.ofNat 6 (s.bitCount.toNat + 9), tcnt := s.cfg.slotTicks, lineOutR := false, sent := true
      st := .done } := by
  have hidx := inSlot_txidx_toNat j s (i := s.bitCount.toNat + 9) (by omega)
  obtain ⟨-, hlt⟩ := activeTicks_bounds hvalid (txBit s (s.bitCount.toNat + 9))
  rw [sampleTick_slotEnd hvalid hj, slotRest_ends hj hidx, inSlot_rest (by omega), ← hj]

theorem afterTick_afterTicks (n : Nat) (s : State) : afterTick (afterTicks n s) = afterTicks (n + 1) s := by
  simp [afterTick, afterTicks, Nat.add_assoc]

/-- `k` ticks after `s`, where the start pulse begins: tick `k mod SLOT_TICKS` of slot `k / SLOT_TICKS` (R215). -/
def transmitting (k : Nat) (s : State) : State :=
  inSlot (k / s.cfg.slotTicks) (k % s.cfg.slotTicks) (afterTicks k s)

/-- The transmission that began at `s` is complete (R212, R215). -/
def transmitted (s : State) : State :=
  afterTicks ((s.bitCount.toNat + 10) * s.cfg.slotTicks) { s with
    txidx := BitVec.ofNat 6 (s.bitCount.toNat + 9), tcnt := s.cfg.slotTicks, lineOutR := false, sent := true, st := .done }

theorem isBusy_transmitting (k : Nat) (s : State) : isBusy (transmitting k s) = true :=
  isBusy_of_sending (sending_inSlot ..)

theorem one_le_slotTicks {c : Config.Params} (hc : c.Valid) : 1 ≤ c.slotTicks := by
  obtain ⟨-, -, -, hlt, -⟩ := hc
  omega

/-- As the idle wait leaves the block, the transmission is in its first tick (R209). -/
theorem transmitting_zero {s : State} (hvalid : s.cfg.Valid) (hst : s.st = .txActive) (hidx : s.txidx = 0)
    (htcnt : s.tcnt = 0) (hline : s.lineOutR = true) : transmitting 0 s = s := by
  obtain ⟨hpos, -⟩ := activeTicks_bounds hvalid (txBit s 0)
  have hstart : inSlot 0 0 s = { s with txidx := 0, tcnt := 0, lineOutR := true, st := .txActive } := inSlot_active hpos
  rw [transmitting, Nat.zero_div, Nat.zero_mod]
  refine hstart.trans ?_
  rw [← hst, ← hidx, ← htcnt, ← hline]

section

variable {s : State} (hvalid : s.cfg.Valid) (hcount : s.bitCount.toNat ≤ 32)
include hvalid hcount

/-- A tick before the last one leads to the next place in the waveform. -/
theorem afterTick_transmitting {k : Nat} (hk : k + 1 < (s.bitCount.toNat + 10) * s.cfg.slotTicks) (a : Bool) :
    afterTick (sampleTick a (transmitting k s)) = transmitting (k + 1) s := by
  have hpos : 0 < s.cfg.slotTicks := one_le_slotTicks hvalid
  have hdiv := Nat.div_add_mod k s.cfg.slotTicks
  have hi : k / s.cfg.slotTicks < s.bitCount.toNat + 10 := (Nat.div_lt_iff_lt_mul hpos).2 (by omega)
  have hi' : (k + 1) / s.cfg.slotTicks < s.bitCount.toNat + 10 := (Nat.div_lt_iff_lt_mul hpos).2 hk
  rw [transmitting, transmitting, ← afterTick_afterTicks]
  obtain hin | hend : k % s.cfg.slotTicks + 1 < s.cfg.slotTicks ∨ k % s.cfg.slotTicks + 1 = s.cfg.slotTicks :=
    Nat.lt_or_eq_of_le (Nat.mod_lt k hpos)
  · obtain ⟨hslot, htick⟩ : (k + 1) / s.cfg.slotTicks = k / s.cfg.slotTicks ∧
        (k + 1) % s.cfg.slotTicks = k % s.cfg.slotTicks + 1 :=
      (Nat.div_mod_unique hpos).2 ⟨by omega, hin⟩
    rw [hslot, htick, sampleTick_inSlot (s := afterTicks k s) (by omega) hin]
    rfl
  · obtain ⟨hslot, htick⟩ : (k + 1) / s.cfg.slotTicks = k / s.cfg.slotTicks + 1 ∧ (k + 1) % s.cfg.slotTicks = 0 :=
      (Nat.div_mod_unique hpos).2 ⟨by rw [Nat.mul_succ]; omega, hpos⟩
    have hmore : k / s.cfg.slotTicks ≠ (afterTicks k s).bitCount.toNat + 9 := by
      change _ ≠ s.bitCount.toNat + 9
      omega
    rw [hslot, htick, sampleTick_inSlot_next (s := afterTicks k s) hvalid (by omega) hend hmore]
    rfl

/-- The tick that completes the last slot ends the transmission (R212). -/
theorem afterTick_transmitting_last {k : Nat} (hk : k + 1 = (s.bitCount.toNat + 10) * s.cfg.slotTicks) (a : Bool) :
    afterTick (sampleTick a (transmitting k s)) = transmitted s := by
  have hpos := one_le_slotTicks hvalid
  obtain ⟨hslot, htick⟩ : k / s.cfg.slotTicks = s.bitCount.toNat + 9 ∧ k % s.cfg.slotTicks = s.cfg.slotTicks - 1 := by
    refine (Nat.div_mod_unique hpos).2 ⟨?_, by omega⟩
    rw [Nat.succ_mul, Nat.mul_comm] at hk
    omega
  rw [transmitting, hslot, htick, transmitted, ← hk, ← afterTick_afterTicks]
  exact congrArg afterTick (sampleTick_inSlot_last (s := afterTicks k s) hvalid hcount (Nat.sub_add_cancel hpos) a)

/-- Whatever the samples are, the waveform runs on (R213, R215). -/
theorem busyRun_transmitting {as : List Bool} (hlt : as.length < (s.bitCount.toNat + 10) * s.cfg.slotTicks) :
    BusyRun as (transmitting 0 s) (transmitting as.length s) := by
  induction as using List.reverseRecOn with
  | nil => exact .nil _
  | append_singleton as a ih =>
    rw [List.length_append, List.length_singleton] at hlt ⊢
    rw [← afterTick_transmitting hvalid hcount hlt a]
    exact (ih (by omega)).concat (isBusy_transmitting ..) a

theorem busyRun_transmitted {as : List Bool} (hlength : as.length = (s.bitCount.toNat + 10) * s.cfg.slotTicks) :
    BusyRun as (transmitting 0 s) (transmitted s) := by
  cases as using List.reverseRecOn with
  | nil =>
    have hpos : 0 < (s.bitCount.toNat + 10) * s.cfg.slotTicks := Nat.mul_pos (by omega) (one_le_slotTicks hvalid)
    exact absurd hlength hpos.ne
  | append_singleton as a =>
    rw [List.length_append, List.length_singleton] at hlength
    rw [← afterTick_transmitting_last hvalid hcount hlength a]
    exact (busyRun_transmitting hvalid hcount (by omega)).concat (isBusy_transmitting ..) a

end

/-- Settles O48: before every tick the run is at its place in the waveform, and the last tick completes the last slot. -/
theorem transmissionDrivesTheWaveform : Obligations.TransmissionDrivesTheWaveform := by
  intro s ins hvalid hst hidx htcnt hline hcount hahead hlength
  have hstart := transmitting_zero hvalid hst hidx htcnt hline
  have hsamples (ins : List TickInput) : (samplesOf s.cfg ins).length = ins.length := List.length_map _
  refine ⟨fun k hk => ⟨transmitting k s, ?_, isBusy_transmitting k s, rfl⟩, transmitted s, ?_, rfl, rfl, rfl, rfl, rfl, rfl,
    rfl, rfl, rfl⟩
  · have htake : (ins.take k).length = k := List.length_take_of_le hk.le
    have hrun := busyRun_transmitting hvalid hcount (as := samplesOf s.cfg (ins.take k)) (by rw [hsamples]; omega)
    rw [hstart, hsamples] at hrun
    simpa only [htake] using (hrun.runSteps (hahead.take k) rfl).2
  · have hrun := busyRun_transmitted hvalid hcount ((hsamples ins).trans hlength)
    rw [hstart] at hrun
    exact (hrun.runSteps hahead rfl).2

end Sys2Proof.Machine

namespace Sys2Proof.Machine

/-! ### The sample that ends a busy command -/

/-- A busy state is one of a reception or of a transmission (R28, R33). -/
theorem receiving_or_sending {s : State} (h : isBusy s = true) : Receiving s ∨ Sending s := by
  obtain ⟨hidle, hdone⟩ := (isBusy_eq_true_iff s).1 h
  unfold Receiving Sending
  cases hst : s.st <;> simp_all

/-- A reception ends only where a silence reaches `MAXLOOPS`, before the start pulse or after a data pulse (R103, R107). -/
theorem sampleTick_ends_receiving {s : State} {a : Bool} (hr : Receiving s) (hfree : isBusy (sampleTick a s) = false) :
    s.gcnt + 1 = s.cfg.maxLoops ∧
      (s.st = .awaitStart ∧ sampleTick a s = { s with gcnt := s.gcnt + 1, cause := 1, st := .done } ∨
        s.st = .gap ∧ sampleTick a s = endOfFrame { s with gcnt := s.gcnt + 1 }) := by
  rw [isBusy_eq_false_iff] at hfree
  rcases hr with hst | hst | hst | hst
  · rw [sampleTick_awaitStart hst] at hfree ⊢
    cases a
    · obtain ⟨hmax, heq⟩ | ⟨-, heq⟩ := startSilence_cases s
      · exact ⟨hmax, .inl ⟨hst, heq⟩⟩
      · simp [heq, hst] at hfree
    · simp at hfree
  · rw [sampleTick_startPulse hst] at hfree
    cases a <;> simp [hst] at hfree
  · rw [sampleTick_gap hst] at hfree ⊢
    cases a
    · obtain ⟨hmax, heq⟩ | ⟨-, heq⟩ := gapSilence_cases s
      · exact ⟨hmax, .inr ⟨hst, heq⟩⟩
      · simp [heq, hst] at hfree
    · simp at hfree
  · rw [sampleTick_pulse hst] at hfree
    cases a <;> simp [endPulse, hst] at hfree

/-- A transmission ends only in the abort of its wait or with its last slot (R208, R212). -/
theorem sampleTick_ends_sending {s : State} {a : Bool} (hs : Sending s) (hfree : isBusy (sampleTick a s) = false) :
    s.st = .txWait ∧ s.bcnt + 1 = s.cfg.maxLoops ∧
        sampleTick a s = { s with icnt := 0, bcnt := s.bcnt + 1, cause := 4, st := .done } ∨
      LastSlotEnds s ∧ sampleTick a s = { s with tcnt := s.tcnt + 1, sent := true, st := .done } := by
  rw [isBusy_eq_false_iff] at hfree
  rcases hs with hst | hst | hst
  · rw [sampleTick_txWait hst] at hfree ⊢
    cases a
    · obtain ⟨-, heq⟩ | ⟨-, heq⟩ := idleSample_cases s <;> simp [heq, hst] at hfree
    · obtain ⟨hmax, heq⟩ | ⟨-, heq⟩ := busySample_cases s
      · exact .inl ⟨hst, hmax, heq⟩
      · simp [heq, hst] at hfree
  · rw [sampleTick_txActive hst] at hfree
    obtain ⟨-, heq⟩ | ⟨-, heq⟩ := slotActive_cases s <;> simp [heq, hst] at hfree
  · rw [sampleTick_txRest hst] at hfree ⊢
    obtain ⟨hslot, hlast, heq⟩ | ⟨-, -, heq⟩ | ⟨-, heq⟩ := slotRest_cases s
    · exact .inr ⟨⟨hst, hslot, hlast⟩, heq⟩
    · simp [heq] at hfree
    · simp [heq, hst] at hfree

/-! ### The packet that the end of a reception finds -/

/-- Before the first data bit the header holds no 1 (R131). -/
theorem ReceptionClean.header_eq_zero {s : State} (h : ReceptionClean s) (hc : s.counter = 0) : s.header = 0 :=
  BitVec.zero_iff_eq_false.2 fun j => h.header j (by simp [hc])

/-- Up to the last header bit the payload holds no 1 (R131, R135). -/
theorem ReceptionClean.payload_eq_zero {s : State} (h : ReceptionClean s) (hc : s.counter.toNat < 9) : s.payload = 0 :=
  BitVec.zero_iff_eq_false.2 fun j => h.payload j (by omega)

theorem errorCheck_cause (s : State) : (errorCheck s).cause = s.cause :=
  (congrArg State.cause (errorCheck_repairs s).frame :)

/-- On a packet not marked before, `incomplete` tells whether ErrorCheck changed it (R26, R160). -/
theorem errorCheck_incomplete_iff {s : State} (h : s.incomplete = false) :
    (errorCheck s).incomplete = true ↔ errorCheck s ≠ s :=
  ⟨fun hi heq => by simp [heq, h] at hi, (errorCheck_same_or_incomplete s).resolve_left⟩

/-- Settles O57: the arms that leave a busy state are those of `sampleTick_ends_receiving` and `sampleTick_ends_sending`,
the end of a frame has three outcomes, and the invariant gives the flags and the packet that each finds. -/
theorem busyCommandEndsInOneOutcome : Obligations.BusyCommandEndsInOneOutcome := by
  intro s t inp hinv htick hrst hstep hb hfree
  have hline : t.lineOutR = false :=
    ((stepKeepsInvariant s t hinv hstep).transmitterOff (accepting_ne ((isBusy_eq_false_iff t).1 hfree)).1).1
  rw [step_sample htick hrst hb rfl, Host.Outcome.next.injEq] at hstep
  have hends : isBusy (sampleTick (sampleOf s.cfg inp) s) = false := by
    rw [← hstep] at hfree
    exact hfree
  obtain hr | hs := receiving_or_sending hb
  · have clean := hinv.reception hr
    obtain ⟨hmax, ⟨hst, heq⟩ | ⟨hst, heq⟩⟩ := sampleTick_ends_receiving hr hends
    · rw [heq] at hstep
      subst hstep
      have hcounter := hinv.counters.unstarted (.inl hst)
      exact ⟨rfl, hline, .inl ⟨hst, hmax, rfl, clean.sent, clean.incomplete, clean.header_eq_zero hcounter,
        clean.payload_eq_zero (by simp [hcounter]), clean.bitCount, clean.parityBit⟩⟩
    · obtain ⟨ho, hframe⟩ | ⟨ho, hshort, hframe⟩ | ⟨ho, h9, hframe⟩ :=
        endOfFrame_cases { s with gcnt := s.gcnt + 1 } <;> rw [heq, hframe] at hstep <;> subst hstep
      · exact ⟨rfl, hline, .inr (.inl ⟨hst, hmax, ho, rfl, clean.sent, clean.incomplete, rfl, rfl, clean.bitCount,
          clean.parityBit⟩)⟩
      · exact ⟨rfl, hline, .inr (.inr (.inl ⟨hst, hmax, ho, hshort, rfl, clean.sent, clean.incomplete, rfl,
          clean.payload_eq_zero hshort, clean.bitCount, clean.parityBit⟩))⟩
      · exact ⟨rfl, hline, .inr (.inr (.inr (.inl ⟨hst, hmax, ho, h9, (errorCheck_cause _).trans clean.cause, rfl,
          _, exec_finalize h9, rfl, rfl, rfl, rfl, errorCheck_incomplete_iff clean.incomplete⟩)))⟩
  · obtain ⟨hst, hmax, heq⟩ | ⟨⟨hst, hslot, hlast⟩, heq⟩ := sampleTick_ends_sending hs hends <;>
      rw [heq] at hstep <;> subst hstep
    · exact ⟨rfl, hline, .inr (.inr (.inr (.inr (.inl ⟨hst, hmax, rfl, rfl, rfl, rfl, rfl, rfl, rfl⟩))))⟩
    · exact ⟨rfl, hline, .inr (.inr (.inr (.inr (.inr ⟨hst, hslot, hlast, hinv.transmitter.cause hs, rfl, rfl, rfl, rfl,
        rfl, rfl⟩))))⟩

end Sys2Proof.Machine

namespace Sys2Proof.Machine

/-! ### A tick with reset -/

/-- Reset wins over the command and over the sample (R239, R260). -/
theorem registersAfter_reset {s : State} {inp : TickInput} (hrst : inp.rst = true) :
    registersAfter inp s = resetRegisters s := by
  simp [registersAfter, hrst]

/-- Settles O2: the tick leaves `resetRegisters s`, and its end moves `env` and `tick` on. -/
theorem resetTickClearsEveryRegister : Obligations.ResetTickClearsEveryRegister := by
  intro s inp htick hrst
  calc step s = .next (afterTick (registersAfter inp s)) := step_tick htick
    _ = .next (afterTick (resetRegisters s)) := by rw [registersAfter_reset hrst]
    _ = .next { State.reset with cfg := s.cfg, env := s.env.tail, tick := s.tick + 1, result := s.result } := rfl

end Sys2Proof.Machine
